-- ==== Sys2Proof/Word.lean ====
section
/-! DEFINITION. The word types of the length-decode block: bytes (00_scope.md R10), the virtual address register and
the 256-entry Boolean tables ("conceptually: a 256-bit set", 30_encoding.md R94). -/

namespace Sys2Proof

/-- A byte is 8 bits, bit 0 the least significant (R10). -/
abbrev Byte := BitVec 8

/-- The virtual address register. It is held in 64 bits for both architectures; on `x86` its value stays below 2^32
(R221; assumption log 14). -/
abbrev VaWord := BitVec 64

/-- A Boolean table over the byte values 0x00 to 0xFF (R94): bit `b` is the entry of byte `b`. -/
abbrev ByteSet := BitVec 256

/-- A set of values of the `reg` field, 0 to 7 (`G3_IMM_REGS`, R8). -/
abbrev RegSet := BitVec 8

end Sys2Proof
end

