-- ==== Sys2Proof/Machine/Bytes.lean ====
section
/-! DEFINITION. Byte order and bit fields: little-endian assembly (20_memory.md R54, 00_scope.md R14), two's complement
(R12), the fields of the addressing byte (30_encoding.md R86), and the opcode byte of an aligned block (R128). -/

namespace Sys2Proof.Machine

/-- `s[0] + 256*s[1] + ...`: the unsigned value of bytes in increasing index order (R14, R54). -/
def leValue : List Byte → Nat
  | [] => 0
  | b :: rest => b.toNat + 256 * leValue rest

/-- The `w` bytes of `v` in increasing index order: byte `k` is `v[8k+7:8k]` (R14). -/
def leBytes : Nat → Nat → List Byte
  | 0, _ => []
  | w + 1, v => BitVec.ofNat 8 v :: leBytes w (v / 256)

/-- `sext` of R12 for a value of `w` bytes: `v` when the top bit is 0, and `v - 2^(8w)` when it is 1. -/
def signValue (w v : Nat) : Int := if v < 2 ^ (8 * w - 1) then v else (v : Int) - 2 ^ (8 * w)

/-- `m[7:6]`, the `mode` field (R86). -/
def modeField (m : Byte) : Nat := m.toNat / 64

/-- `m[5:3]`, the `reg` field (R86). -/
def regField (m : Byte) : Nat := m.toNat / 8 % 8

/-- `m[2:0]`, the `rm` field (R86); of an addressing extension byte, its low 3 bits (R88). -/
def lowField (m : Byte) : Nat := m.toNat % 8

/-- The byte of an aligned block of the opcode table: the row's `match` byte with the block's free bits (R128). -/
def blockByte {k : Nat} (first : Byte) (sel : BitVec k) : Byte := first ||| sel.setWidth 8

end Sys2Proof.Machine
end

