-- ==== Sys2Proof/Config.lean ====
section
/-! DEFINITION. What one block instance is built with (00_scope.md R6 to R8; 10_state.md R24, R37): constants no command
changes. They are data, so a statement quantifies over them; the one parameter that is a function, HASH_FN, has no body. -/

namespace Sys2Proof

/-- `ARCH` (R6): which engine and which virtual address width the instance has. -/
inductive Arch where
  | x86
  | x64
deriving DecidableEq, Repr

/-- `VAW` (R6): 32 for X86, 64 for X64. -/
def Arch.vaw : Arch → Nat
  | .x86 => 32
  | .x64 => 64

/-- `REXW_POLICY` (R147): the open parameter that says whether REX.W widens immediates. -/
inductive RexwPolicy where
  | ignore
  | widen
deriving DecidableEq, Repr

/-- `T`, the record of bit-tables (R94 to R104), with the two byte constants of R95. -/
structure Tables where
  /-- R95 -/
  isLegacyPrefix : ByteSet
  opsize : Byte
  adsize : Byte
  /-- R96 -/
  isRex : ByteSet
  /-- R97 -/
  op1Modrm : ByteSet
  /-- R98 -/
  op1Imm8 : ByteSet
  op1ImmDef : ByteSet
  op1ImmFull : ByteSet
  /-- R99 -/
  op1Imm16 : ByteSet
  /-- R100 -/
  op1Moffs : ByteSet
  /-- R101 -/
  op1G3Imm8 : ByteSet
  op1G3ImmDef : ByteSet
  /-- R102 -/
  op2Invalid : ByteSet
  op2Modrm : ByteSet
  /-- R103; `op2Imm16` is the parameter `OP2_IMM16` of R8 -/
  op2Imm8 : ByteSet
  op2ImmDef : ByteSet
  op2Imm16 : ByteSet
  /-- R104 -/
  op38Invalid : ByteSet
  op3AInvalid : ByteSet
deriving DecidableEq, Repr

/-- The constants of one instance: `ARCH`, `T`, `REXW_POLICY`, `G3_IMM_REGS` and `EXH_LATCH` (R6 to R8). -/
structure Config where
  arch : Arch
  tables : Tables
  rexwPolicy : RexwPolicy
  g3ImmRegs : RegSet
  exhLatch : Bool
deriving DecidableEq, Repr

/-- `HASH_FN` (R207, U10): OPEN. It has no body: nothing may be assumed of it but that it is a function of the byte
sequence. That a hash value is a natural number is a DESIGN CHOICE (assumption log 6). -/
opaque hashFn : List Byte → Nat

end Sys2Proof
end

