-- ==== Sys2Proof/Machine/Tables.lean ====
section
/-! DEFINITION. Table lookup (30_encoding.md R94), the default tables T_default (R114 to R122), the constraints a table
record must satisfy (R105, R106), and the default parameters (00_scope.md R8). -/

namespace Sys2Proof.Machine

/-- The entry of a table at a byte (R94). -/
def tableHas (t : ByteSet) (b : Byte) : Bool := t.getLsbD b.toNat

/-- The table that is true at the bytes `lo` to `hi`, both included. -/
def byteRange (lo hi : Nat) : ByteSet := BitVec.ofNat 256 (2 ^ (hi + 1) - 2 ^ lo)

/-- The table that is true on each of the listed inclusive ranges and false elsewhere. -/
def byteRanges : List (Nat × Nat) → ByteSet
  | [] => 0
  | (lo, hi) :: rest => byteRange lo hi ||| byteRanges rest

/-- R114: the legacy prefixes. -/
def defaultIsLegacyPrefix : ByteSet :=
  byteRanges [(0x26, 0x26), (0x2E, 0x2E), (0x36, 0x36), (0x3E, 0x3E), (0x64, 0x67), (0xF0, 0xF0), (0xF2, 0xF3)]

/-- R114: the REX prefixes. -/
def defaultIsRex : ByteSet := byteRanges [(0x40, 0x4F)]

/-- R115. -/
def defaultOp1Modrm : ByteSet :=
  byteRanges [(0x00, 0x03), (0x08, 0x0B), (0x10, 0x13), (0x18, 0x1B), (0x20, 0x23), (0x28, 0x2B), (0x30, 0x33),
    (0x38, 0x3B), (0x62, 0x63), (0x69, 0x69), (0x6B, 0x6B), (0x80, 0x8F), (0xC0, 0xC1), (0xC4, 0xC7), (0xD0, 0xD3),
    (0xD8, 0xDF), (0xF6, 0xF7), (0xFE, 0xFF)]

/-- R116: one-byte opcodes with an 8-bit immediate. -/
def defaultOp1Imm8 : ByteSet :=
  byteRanges [(0x04, 0x04), (0x0C, 0x0C), (0x14, 0x14), (0x1C, 0x1C), (0x24, 0x24), (0x2C, 0x2C), (0x34, 0x34),
    (0x3C, 0x3C), (0x6A, 0x6B), (0x70, 0x7F), (0x80, 0x80), (0x82, 0x83), (0xA8, 0xA8), (0xB0, 0xB7), (0xC0, 0xC1),
    (0xC6, 0xC6), (0xC8, 0xC8), (0xCD, 0xCD), (0xD4, 0xD5), (0xE0, 0xE7), (0xEB, 0xEB)]

/-- R116: one-byte opcodes with a default-width immediate. -/
def defaultOp1ImmDef : ByteSet :=
  byteRanges [(0x05, 0x05), (0x0D, 0x0D), (0x15, 0x15), (0x1D, 0x1D), (0x25, 0x25), (0x2D, 0x2D), (0x35, 0x35),
    (0x3D, 0x3D), (0x68, 0x69), (0x81, 0x81), (0x9A, 0x9A), (0xA9, 0xA9), (0xC7, 0xC7), (0xE8, 0xEA)]

/-- R116: the opcodes 0xB8 to 0xBF. -/
def defaultOp1ImmFull : ByteSet := byteRanges [(0xB8, 0xBF)]

/-- R117: fixed 16-bit immediates. -/
def defaultOp1Imm16 : ByteSet :=
  byteRanges [(0x9A, 0x9A), (0xC2, 0xC2), (0xC8, 0xC8), (0xCA, 0xCA), (0xEA, 0xEA)]

/-- R117: the absolute-addressing forms. -/
def defaultOp1Moffs : ByteSet := byteRanges [(0xA0, 0xA3)]

/-- R117: the group-3 pair. -/
def defaultOp1G3Imm8 : ByteSet := byteRanges [(0xF6, 0xF6)]
def defaultOp1G3ImmDef : ByteSet := byteRanges [(0xF7, 0xF7)]

/-- R118. -/
def defaultOp2Invalid : ByteSet :=
  byteRanges [(0x04, 0x04), (0x0A, 0x0A), (0x0C, 0x0C), (0x24, 0x27), (0x36, 0x36), (0x39, 0x39), (0x3B, 0x3F),
    (0x7A, 0x7B), (0xA6, 0xA7), (0xFF, 0xFF)]

/-- R119. -/
def defaultOp2Modrm : ByteSet :=
  byteRanges [(0x00, 0x03), (0x0D, 0x0D), (0x0F, 0x0F), (0x10, 0x17), (0x18, 0x1F), (0x20, 0x23), (0x28, 0x2F),
    (0x40, 0x4F), (0x50, 0x76), (0x78, 0x79), (0x7C, 0x7F), (0x90, 0x9F), (0xA3, 0xA5), (0xAB, 0xAF), (0xB0, 0xBF),
    (0xC0, 0xC7), (0xD0, 0xFE)]

/-- R120: two-byte opcodes with one extra byte. -/
def defaultOp2Imm8 : ByteSet :=
  byteRanges [(0x0F, 0x0F), (0x70, 0x73), (0xA4, 0xA4), (0xAC, 0xAC), (0xBA, 0xBA), (0xC2, 0xC2), (0xC4, 0xC6)]

/-- R120: the near conditional jumps. -/
def defaultOp2ImmDef : ByteSet := byteRanges [(0x80, 0x8F)]

/-- R121: the valid bytes of the 0F 38 map; every other byte is invalid. -/
def defaultOp38Valid : ByteSet :=
  byteRanges [(0x00, 0x0B), (0x10, 0x10), (0x14, 0x15), (0x17, 0x17), (0x1C, 0x1E), (0x20, 0x25), (0x28, 0x2B),
    (0x30, 0x35), (0x37, 0x41), (0x80, 0x82), (0xC8, 0xCD), (0xDB, 0xDF), (0xF0, 0xF1), (0xF6, 0xF6)]

/-- R122: the valid bytes of the 0F 3A map; every other byte is invalid. -/
def defaultOp3AValid : ByteSet :=
  byteRanges [(0x08, 0x0F), (0x14, 0x17), (0x20, 0x22), (0x40, 0x42), (0x44, 0x44), (0x60, 0x63), (0xCC, 0xCC),
    (0xDF, 0xDF)]

/-- T_default (R114 to R122), the same record for both architectures. `op2Imm16` is empty (R120). -/
def defaultTables : Tables where
  isLegacyPrefix := defaultIsLegacyPrefix
  opsize := 0x66#8
  adsize := 0x67#8
  isRex := defaultIsRex
  op1Modrm := defaultOp1Modrm
  op1Imm8 := defaultOp1Imm8
  op1ImmDef := defaultOp1ImmDef
  op1ImmFull := defaultOp1ImmFull
  op1Imm16 := defaultOp1Imm16
  op1Moffs := defaultOp1Moffs
  op1G3Imm8 := defaultOp1G3Imm8
  op1G3ImmDef := defaultOp1G3ImmDef
  op2Invalid := defaultOp2Invalid
  op2Modrm := defaultOp2Modrm
  op2Imm8 := defaultOp2Imm8
  op2ImmDef := defaultOp2ImmDef
  op2Imm16 := 0
  op38Invalid := ~~~ defaultOp38Valid
  op3AInvalid := ~~~ defaultOp3AValid

/-- `G3_IMM_REGS = {0, 1}` (R8, R117). -/
def defaultG3ImmRegs : RegSet := 0x03#8

/-- The instance the model's reset state is: an X64 block over T_default with the default parameters (R8). The spec
fixes neither ARCH nor REXW_POLICY of an instance: DESIGN CHOICE, assumption logs 3 and 4. -/
def builtConfig : Config where
  arch := .x64
  tables := defaultTables
  rexwPolicy := .ignore
  g3ImmRegs := defaultG3ImmRegs
  exhLatch := true

/-- R106 (a) to (e): the structural constraints on `T` that make the algorithm well formed. (R106 (f) says of some entries
that they are never looked up: it constrains nothing.) -/
def tablesStructural (t : Tables) : Bool :=
  !tableHas t.isLegacyPrefix 0x0F#8 && !tableHas t.isRex 0x0F#8
    && !tableHas t.op2Invalid 0x38#8 && !tableHas t.op2Invalid 0x3A#8
    && t.opsize != t.adsize && tableHas t.isLegacyPrefix t.opsize && tableHas t.isLegacyPrefix t.adsize
    && t.isLegacyPrefix &&& t.isRex == 0
    && (t.op1G3Imm8 ||| t.op1G3ImmDef) &&& ~~~ t.op1Modrm == 0

/-- No one-byte table gives the byte an immediate of any class. -/
def carriesNoImmediate (t : Tables) (b : Byte) : Bool :=
  !tableHas t.op1Imm8 b && !tableHas t.op1ImmDef b && !tableHas t.op1ImmFull b && !tableHas t.op1Imm16 b
    && !tableHas t.op1Moffs b && !tableHas t.op1G3Imm8 b && !tableHas t.op1G3ImmDef b

/-- The byte carries exactly a one-byte immediate. -/
def carriesOnlyImm8 (t : Tables) (b : Byte) : Bool :=
  tableHas t.op1Imm8 b && !tableHas t.op1ImmDef b && !tableHas t.op1ImmFull b && !tableHas t.op1Imm16 b
    && !tableHas t.op1Moffs b && !tableHas t.op1G3Imm8 b && !tableHas t.op1G3ImmDef b

/-- The byte carries exactly the absolute-addressing immediate. -/
def carriesOnlyMoffs (t : Tables) (b : Byte) : Bool :=
  tableHas t.op1Moffs b && !tableHas t.op1Imm8 b && !tableHas t.op1ImmDef b && !tableHas t.op1ImmFull b
    && !tableHas t.op1Imm16 b && !tableHas t.op1G3Imm8 b && !tableHas t.op1G3ImmDef b

/-- The byte is no prefix for the architecture (R82, R83). -/
def notAPrefix (arch : Arch) (t : Tables) (b : Byte) : Bool :=
  !tableHas t.isLegacyPrefix b && !(arch == .x64 && tableHas t.isRex b)

/-- R105: the entries of `T` that the source's own scenarios fix. (The rule's last constraint, on the slice 00 80, is
about a decode and not about one entry: `tablesScenario`.) -/
def tablesEntries (arch : Arch) (t : Tables) : Bool :=
  match arch with
  | .x86 =>
    notAPrefix .x86 t 0x40#8 && !tableHas t.op1Modrm 0x40#8 && carriesNoImmediate t 0x40#8
      && notAPrefix .x86 t 0xB8#8 && !tableHas t.op1Modrm 0xB8#8
      && (tableHas t.op1ImmDef 0xB8#8 != tableHas t.op1ImmFull 0xB8#8)
      && !tableHas t.op1Imm8 0xB8#8 && !tableHas t.op1Imm16 0xB8#8 && !tableHas t.op1Moffs 0xB8#8
      && !tableHas t.op1G3Imm8 0xB8#8 && !tableHas t.op1G3ImmDef 0xB8#8
      && notAPrefix .x86 t 0x04#8 && !tableHas t.op1Modrm 0x04#8 && carriesOnlyImm8 t 0x04#8
      && notAPrefix .x86 t 0x89#8 && tableHas t.op1Modrm 0x89#8 && carriesNoImmediate t 0x89#8
      && notAPrefix .x86 t 0x84#8 && tableHas t.op1Modrm 0x84#8 && carriesNoImmediate t 0x84#8
      && notAPrefix .x86 t 0xDD#8 && tableHas t.op1Modrm 0xDD#8 && carriesNoImmediate t 0xDD#8
      && tableHas t.isLegacyPrefix 0x67#8 && t.adsize == 0x67#8
      && notAPrefix .x86 t 0xA1#8 && !tableHas t.op1Modrm 0xA1#8 && carriesOnlyMoffs t 0xA1#8
      && notAPrefix .x86 t 0xC3#8 && !tableHas t.op1Modrm 0xC3#8 && carriesNoImmediate t 0xC3#8
  | .x64 =>
    tableHas t.isRex 0x40#8 && tableHas t.isRex 0x48#8
      && notAPrefix .x64 t 0x55#8 && !tableHas t.op1Modrm 0x55#8 && carriesNoImmediate t 0x55#8
      && notAPrefix .x64 t 0x83#8 && tableHas t.op1Modrm 0x83#8 && carriesOnlyImm8 t 0x83#8

end Sys2Proof.Machine
end

