-- ==== Sys2Proof/Syntax.lean ====
section
/-! DEFINITION. The syntax: one constructor per row of the opcode table. The first 27 are the block's commands
(00_scope.md R18). The other 250 are the byte classes of the four x86 opcode maps (30_encoding.md R85, R128): the x86
instructions the block measures. `sel` holds the free bits of a block of opcode bytes; the bytes after
the opcode stay in the buffer, where the engine reads them (assumption log 9). Rows of one opcode byte stand last:
compiled Lean has no more than 245 constructors with fields. -/

namespace Sys2Proof

/-- A view (R180): the window `BUF[base..base+len)` and the bit that says whether it may be written. -/
structure View where
  base : Nat
  len : Nat
  mutBit : Bool
deriving DecidableEq, Repr

/-- The instructions: the 27 commands, then the byte-class rows of the opcode table. -/
inductive Instr where
  /-- RESET, ordinal 0x00 (R280) -/
  | reset
  /-- DECODE_BREAKDOWN, ordinal 0x01 (R140) -/
  | decodeBreakdown (base : Nat) (len : Nat)
  /-- DECODE_LEN, ordinal 0x02 (R174) -/
  | decodeLen (base : Nat) (len : Nat)
  /-- ITER_START, ordinal 0x03 (R223) -/
  | iterStart (base : Nat) (len : Nat) (va0 : VaWord) (mutBit : Bool)
  /-- ITER_NEXT, ordinal 0x04 (R225) -/
  | iterNext
  /-- ITER_SKIP, ordinal 0x05 (R229) -/
  | iterSkip (k : Nat)
  /-- VIEW_LEN, ordinal 0x06 (R184) -/
  | viewLen (v : View)
  /-- VIEW_BYTES, ordinal 0x07 (R185) -/
  | viewBytes (v : View)
  /-- VIEW_READ_U8, ordinal 0x08 (R187) -/
  | viewReadU8 (v : View) (off : Nat)
  /-- VIEW_READ_U16, ordinal 0x09 (R188) -/
  | viewReadU16 (v : View) (off : Nat)
  /-- VIEW_READ_U32, ordinal 0x0A (R189) -/
  | viewReadU32 (v : View) (off : Nat)
  /-- VIEW_READ_U64, ordinal 0x0B (R190) -/
  | viewReadU64 (v : View) (off : Nat)
  /-- VIEW_READ_I8, ordinal 0x0C (R191) -/
  | viewReadI8 (v : View) (off : Nat)
  /-- VIEW_READ_I16, ordinal 0x0D (R192) -/
  | viewReadI16 (v : View) (off : Nat)
  /-- VIEW_READ_I32, ordinal 0x0E (R193) -/
  | viewReadI32 (v : View) (off : Nat)
  /-- VIEW_READ_I64, ordinal 0x0F (R194) -/
  | viewReadI64 (v : View) (off : Nat)
  /-- VIEW_WRITE_U8, ordinal 0x10 (R196) -/
  | viewWriteU8 (v : View) (off : Nat) (x : BitVec 8)
  /-- VIEW_WRITE_U16, ordinal 0x11 (R197) -/
  | viewWriteU16 (v : View) (off : Nat) (x : BitVec 16)
  /-- VIEW_WRITE_U32, ordinal 0x12 (R198) -/
  | viewWriteU32 (v : View) (off : Nat) (x : BitVec 32)
  /-- VIEW_WRITE_U64, ordinal 0x13 (R199) -/
  | viewWriteU64 (v : View) (off : Nat) (x : BitVec 64)
  /-- VIEW_WRITE_I8, ordinal 0x14 (R200) -/
  | viewWriteI8 (v : View) (off : Nat) (x : BitVec 8)
  /-- VIEW_WRITE_I16, ordinal 0x15 (R201) -/
  | viewWriteI16 (v : View) (off : Nat) (x : BitVec 16)
  /-- VIEW_WRITE_I32, ordinal 0x16 (R202) -/
  | viewWriteI32 (v : View) (off : Nat) (x : BitVec 32)
  /-- VIEW_WRITE_I64, ordinal 0x17 (R203) -/
  | viewWriteI64 (v : View) (off : Nat) (x : BitVec 64)
  /-- VIEW_EQ, ordinal 0x18 (R205) -/
  | viewEq (a : View) (b : View)
  /-- VIEW_CMP, ordinal 0x19 (R206) -/
  | viewCmp (a : View) (b : View)
  /-- VIEW_HASH, ordinal 0x1A (R207) -/
  | viewHash (v : View)
  /-- 00 to 03: one-byte opcode (R156) -/
  | b1_00_03 (sel : BitVec 2)
  /-- 06 to 07: one-byte opcode (R156) -/
  | b1_06_07 (sel : BitVec 1)
  /-- 08 to 0B: one-byte opcode (R156) -/
  | b1_08_0B (sel : BitVec 2)
  /-- 10 to 13: one-byte opcode (R156) -/
  | b1_10_13 (sel : BitVec 2)
  /-- 16 to 17: one-byte opcode (R156) -/
  | b1_16_17 (sel : BitVec 1)
  /-- 18 to 1B: one-byte opcode (R156) -/
  | b1_18_1B (sel : BitVec 2)
  /-- 1E to 1F: one-byte opcode (R156) -/
  | b1_1E_1F (sel : BitVec 1)
  /-- 20 to 23: one-byte opcode (R156) -/
  | b1_20_23 (sel : BitVec 2)
  /-- 28 to 2B: one-byte opcode (R156) -/
  | b1_28_2B (sel : BitVec 2)
  /-- 30 to 33: one-byte opcode (R156) -/
  | b1_30_33 (sel : BitVec 2)
  /-- 38 to 3B: one-byte opcode (R156) -/
  | b1_38_3B (sel : BitVec 2)
  /-- 40 to 5F: one-byte opcode (R156) -/
  | b1_40_5F (sel : BitVec 5)
  /-- 60 to 61: one-byte opcode (R156) -/
  | b1_60_61 (sel : BitVec 1)
  /-- 62 to 63: one-byte opcode (R156) -/
  | b1_62_63 (sel : BitVec 1)
  /-- 64 to 67: legacy prefix (R142) -/
  | b1_64_67 (sel : BitVec 2)
  /-- 6C to 6F: one-byte opcode (R156) -/
  | b1_6C_6F (sel : BitVec 2)
  /-- 70 to 7F: one-byte opcode (R156) -/
  | b1_70_7F (sel : BitVec 4)
  /-- 82 to 83: one-byte opcode (R156) -/
  | b1_82_83 (sel : BitVec 1)
  /-- 84 to 87: one-byte opcode (R156) -/
  | b1_84_87 (sel : BitVec 2)
  /-- 88 to 8F: one-byte opcode (R156) -/
  | b1_88_8F (sel : BitVec 3)
  /-- 90 to 97: one-byte opcode (R156) -/
  | b1_90_97 (sel : BitVec 3)
  /-- 98 to 99: one-byte opcode (R156) -/
  | b1_98_99 (sel : BitVec 1)
  /-- 9C to 9F: one-byte opcode (R156) -/
  | b1_9C_9F (sel : BitVec 2)
  /-- A0 to A3: one-byte opcode (R156) -/
  | b1_A0_A3 (sel : BitVec 2)
  /-- A4 to A7: one-byte opcode (R156) -/
  | b1_A4_A7 (sel : BitVec 2)
  /-- AA to AB: one-byte opcode (R156) -/
  | b1_AA_AB (sel : BitVec 1)
  /-- AC to AF: one-byte opcode (R156) -/
  | b1_AC_AF (sel : BitVec 2)
  /-- B0 to B7: one-byte opcode (R156) -/
  | b1_B0_B7 (sel : BitVec 3)
  /-- B8 to BF: one-byte opcode (R156) -/
  | b1_B8_BF (sel : BitVec 3)
  /-- C0 to C1: one-byte opcode (R156) -/
  | b1_C0_C1 (sel : BitVec 1)
  /-- C4 to C5: one-byte opcode (R156) -/
  | b1_C4_C5 (sel : BitVec 1)
  /-- CE to CF: one-byte opcode (R156) -/
  | b1_CE_CF (sel : BitVec 1)
  /-- D0 to D3: one-byte opcode (R156) -/
  | b1_D0_D3 (sel : BitVec 2)
  /-- D4 to D5: one-byte opcode (R156) -/
  | b1_D4_D5 (sel : BitVec 1)
  /-- D6 to D7: one-byte opcode (R156) -/
  | b1_D6_D7 (sel : BitVec 1)
  /-- D8 to DF: one-byte opcode (R156) -/
  | b1_D8_DF (sel : BitVec 3)
  /-- E0 to E7: one-byte opcode (R156) -/
  | b1_E0_E7 (sel : BitVec 3)
  /-- E8 to E9: one-byte opcode (R156) -/
  | b1_E8_E9 (sel : BitVec 1)
  /-- EC to EF: one-byte opcode (R156) -/
  | b1_EC_EF (sel : BitVec 2)
  /-- F2 to F3: legacy prefix (R142) -/
  | b1_F2_F3 (sel : BitVec 1)
  /-- F4 to F5: one-byte opcode (R156) -/
  | b1_F4_F5 (sel : BitVec 1)
  /-- F8 to FB: one-byte opcode (R156) -/
  | b1_F8_FB (sel : BitVec 2)
  /-- FC to FD: one-byte opcode (R156) -/
  | b1_FC_FD (sel : BitVec 1)
  /-- FE to FF: one-byte opcode (R156) -/
  | b1_FE_FF (sel : BitVec 1)
  /-- 40 to 4F: REX prefix of X64 (R145) -/
  | rex_40_4F (sel : BitVec 4)
  /-- 0F 00 to 03: two-byte opcode (R154) -/
  | b2_0F_00_03 (sel : BitVec 2)
  /-- 0F 06 to 07: two-byte opcode (R154) -/
  | b2_0F_06_07 (sel : BitVec 1)
  /-- 0F 08 to 09: two-byte opcode (R154) -/
  | b2_0F_08_09 (sel : BitVec 1)
  /-- 0F 10 to 1F: two-byte opcode (R154) -/
  | b2_0F_10_1F (sel : BitVec 4)
  /-- 0F 20 to 23: two-byte opcode (R154) -/
  | b2_0F_20_23 (sel : BitVec 2)
  /-- 0F 24 to 27: invalid opcode (R153) -/
  | b2_0F_24_27 (sel : BitVec 2)
  /-- 0F 28 to 2F: two-byte opcode (R154) -/
  | b2_0F_28_2F (sel : BitVec 3)
  /-- 0F 30 to 33: two-byte opcode (R154) -/
  | b2_0F_30_33 (sel : BitVec 2)
  /-- 0F 34 to 35: two-byte opcode (R154) -/
  | b2_0F_34_35 (sel : BitVec 1)
  /-- 0F 3C to 3F: invalid opcode (R153) -/
  | b2_0F_3C_3F (sel : BitVec 2)
  /-- 0F 40 to 5F: two-byte opcode (R154) -/
  | b2_0F_40_5F (sel : BitVec 5)
  /-- 0F 60 to 6F: two-byte opcode (R154) -/
  | b2_0F_60_6F (sel : BitVec 4)
  /-- 0F 70 to 73: two-byte opcode (R154) -/
  | b2_0F_70_73 (sel : BitVec 2)
  /-- 0F 74 to 75: two-byte opcode (R154) -/
  | b2_0F_74_75 (sel : BitVec 1)
  /-- 0F 78 to 79: two-byte opcode (R154) -/
  | b2_0F_78_79 (sel : BitVec 1)
  /-- 0F 7A to 7B: invalid opcode (R153) -/
  | b2_0F_7A_7B (sel : BitVec 1)
  /-- 0F 7C to 7F: two-byte opcode (R154) -/
  | b2_0F_7C_7F (sel : BitVec 2)
  /-- 0F 80 to 8F: two-byte opcode (R154) -/
  | b2_0F_80_8F (sel : BitVec 4)
  /-- 0F 90 to 9F: two-byte opcode (R154) -/
  | b2_0F_90_9F (sel : BitVec 4)
  /-- 0F A0 to A1: two-byte opcode (R154) -/
  | b2_0F_A0_A1 (sel : BitVec 1)
  /-- 0F A6 to A7: invalid opcode (R153) -/
  | b2_0F_A6_A7 (sel : BitVec 1)
  /-- 0F A8 to A9: two-byte opcode (R154) -/
  | b2_0F_A8_A9 (sel : BitVec 1)
  /-- 0F AE to AF: two-byte opcode (R154) -/
  | b2_0F_AE_AF (sel : BitVec 1)
  /-- 0F B0 to B7: two-byte opcode (R154) -/
  | b2_0F_B0_B7 (sel : BitVec 3)
  /-- 0F B8 to B9: two-byte opcode (R154) -/
  | b2_0F_B8_B9 (sel : BitVec 1)
  /-- 0F BC to BF: two-byte opcode (R154) -/
  | b2_0F_BC_BF (sel : BitVec 2)
  /-- 0F C0 to C1: two-byte opcode (R154) -/
  | b2_0F_C0_C1 (sel : BitVec 1)
  /-- 0F C4 to C5: two-byte opcode (R154) -/
  | b2_0F_C4_C5 (sel : BitVec 1)
  /-- 0F C8 to CF: two-byte opcode (R154) -/
  | b2_0F_C8_CF (sel : BitVec 3)
  /-- 0F D0 to DF: two-byte opcode (R154) -/
  | b2_0F_D0_DF (sel : BitVec 4)
  /-- 0F E0 to EF: two-byte opcode (R154) -/
  | b2_0F_E0_EF (sel : BitVec 4)
  /-- 0F F0 to F7: two-byte opcode (R154) -/
  | b2_0F_F0_F7 (sel : BitVec 3)
  /-- 0F F8 to FB: two-byte opcode (R154) -/
  | b2_0F_F8_FB (sel : BitVec 2)
  /-- 0F FC to FD: two-byte opcode (R154) -/
  | b2_0F_FC_FD (sel : BitVec 1)
  /-- 0F 38 00 to 07: three-byte opcode (R152) -/
  | b3_0F38_00_07 (sel : BitVec 3)
  /-- 0F 38 08 to 0B: three-byte opcode (R152) -/
  | b3_0F38_08_0B (sel : BitVec 2)
  /-- 0F 38 0C to 0F: invalid opcode (R153) -/
  | b3_0F38_0C_0F (sel : BitVec 2)
  /-- 0F 38 12 to 13: invalid opcode (R153) -/
  | b3_0F38_12_13 (sel : BitVec 1)
  /-- 0F 38 14 to 15: three-byte opcode (R152) -/
  | b3_0F38_14_15 (sel : BitVec 1)
  /-- 0F 38 18 to 1B: invalid opcode (R153) -/
  | b3_0F38_18_1B (sel : BitVec 2)
  /-- 0F 38 1C to 1D: three-byte opcode (R152) -/
  | b3_0F38_1C_1D (sel : BitVec 1)
  /-- 0F 38 20 to 23: three-byte opcode (R152) -/
  | b3_0F38_20_23 (sel : BitVec 2)
  /-- 0F 38 24 to 25: three-byte opcode (R152) -/
  | b3_0F38_24_25 (sel : BitVec 1)
  /-- 0F 38 26 to 27: invalid opcode (R153) -/
  | b3_0F38_26_27 (sel : BitVec 1)
  /-- 0F 38 28 to 2B: three-byte opcode (R152) -/
  | b3_0F38_28_2B (sel : BitVec 2)
  /-- 0F 38 2C to 2F: invalid opcode (R153) -/
  | b3_0F38_2C_2F (sel : BitVec 2)
  /-- 0F 38 30 to 33: three-byte opcode (R152) -/
  | b3_0F38_30_33 (sel : BitVec 2)
  /-- 0F 38 34 to 35: three-byte opcode (R152) -/
  | b3_0F38_34_35 (sel : BitVec 1)
  /-- 0F 38 38 to 3F: three-byte opcode (R152) -/
  | b3_0F38_38_3F (sel : BitVec 3)
  /-- 0F 38 40 to 41: three-byte opcode (R152) -/
  | b3_0F38_40_41 (sel : BitVec 1)
  /-- 0F 38 42 to 43: invalid opcode (R153) -/
  | b3_0F38_42_43 (sel : BitVec 1)
  /-- 0F 38 44 to 47: invalid opcode (R153) -/
  | b3_0F38_44_47 (sel : BitVec 2)
  /-- 0F 38 48 to 4F: invalid opcode (R153) -/
  | b3_0F38_48_4F (sel : BitVec 3)
  /-- 0F 38 50 to 5F: invalid opcode (R153) -/
  | b3_0F38_50_5F (sel : BitVec 4)
  /-- 0F 38 60 to 7F: invalid opcode (R153) -/
  | b3_0F38_60_7F (sel : BitVec 5)
  /-- 0F 38 80 to 81: three-byte opcode (R152) -/
  | b3_0F38_80_81 (sel : BitVec 1)
  /-- 0F 38 84 to 87: invalid opcode (R153) -/
  | b3_0F38_84_87 (sel : BitVec 2)
  /-- 0F 38 88 to 8F: invalid opcode (R153) -/
  | b3_0F38_88_8F (sel : BitVec 3)
  /-- 0F 38 90 to 9F: invalid opcode (R153) -/
  | b3_0F38_90_9F (sel : BitVec 4)
  /-- 0F 38 A0 to BF: invalid opcode (R153) -/
  | b3_0F38_A0_BF (sel : BitVec 5)
  /-- 0F 38 C0 to C7: invalid opcode (R153) -/
  | b3_0F38_C0_C7 (sel : BitVec 3)
  /-- 0F 38 C8 to CB: three-byte opcode (R152) -/
  | b3_0F38_C8_CB (sel : BitVec 2)
  /-- 0F 38 CC to CD: three-byte opcode (R152) -/
  | b3_0F38_CC_CD (sel : BitVec 1)
  /-- 0F 38 CE to CF: invalid opcode (R153) -/
  | b3_0F38_CE_CF (sel : BitVec 1)
  /-- 0F 38 D0 to D7: invalid opcode (R153) -/
  | b3_0F38_D0_D7 (sel : BitVec 3)
  /-- 0F 38 D8 to D9: invalid opcode (R153) -/
  | b3_0F38_D8_D9 (sel : BitVec 1)
  /-- 0F 38 DC to DF: three-byte opcode (R152) -/
  | b3_0F38_DC_DF (sel : BitVec 2)
  /-- 0F 38 E0 to EF: invalid opcode (R153) -/
  | b3_0F38_E0_EF (sel : BitVec 4)
  /-- 0F 38 F0 to F1: three-byte opcode (R152) -/
  | b3_0F38_F0_F1 (sel : BitVec 1)
  /-- 0F 38 F2 to F3: invalid opcode (R153) -/
  | b3_0F38_F2_F3 (sel : BitVec 1)
  /-- 0F 38 F4 to F5: invalid opcode (R153) -/
  | b3_0F38_F4_F5 (sel : BitVec 1)
  /-- 0F 38 F8 to FF: invalid opcode (R153) -/
  | b3_0F38_F8_FF (sel : BitVec 3)
  /-- 0F 3A 00 to 07: invalid opcode (R153) -/
  | b3_0F3A_00_07 (sel : BitVec 3)
  /-- 0F 3A 08 to 0F: three-byte opcode (R152) -/
  | b3_0F3A_08_0F (sel : BitVec 3)
  /-- 0F 3A 10 to 13: invalid opcode (R153) -/
  | b3_0F3A_10_13 (sel : BitVec 2)
  /-- 0F 3A 14 to 17: three-byte opcode (R152) -/
  | b3_0F3A_14_17 (sel : BitVec 2)
  /-- 0F 3A 18 to 1F: invalid opcode (R153) -/
  | b3_0F3A_18_1F (sel : BitVec 3)
  /-- 0F 3A 20 to 21: three-byte opcode (R152) -/
  | b3_0F3A_20_21 (sel : BitVec 1)
  /-- 0F 3A 24 to 27: invalid opcode (R153) -/
  | b3_0F3A_24_27 (sel : BitVec 2)
  /-- 0F 3A 28 to 2F: invalid opcode (R153) -/
  | b3_0F3A_28_2F (sel : BitVec 3)
  /-- 0F 3A 30 to 3F: invalid opcode (R153) -/
  | b3_0F3A_30_3F (sel : BitVec 4)
  /-- 0F 3A 40 to 41: three-byte opcode (R152) -/
  | b3_0F3A_40_41 (sel : BitVec 1)
  /-- 0F 3A 46 to 47: invalid opcode (R153) -/
  | b3_0F3A_46_47 (sel : BitVec 1)
  /-- 0F 3A 48 to 4F: invalid opcode (R153) -/
  | b3_0F3A_48_4F (sel : BitVec 3)
  /-- 0F 3A 50 to 5F: invalid opcode (R153) -/
  | b3_0F3A_50_5F (sel : BitVec 4)
  /-- 0F 3A 60 to 63: three-byte opcode (R152) -/
  | b3_0F3A_60_63 (sel : BitVec 2)
  /-- 0F 3A 64 to 67: invalid opcode (R153) -/
  | b3_0F3A_64_67 (sel : BitVec 2)
  /-- 0F 3A 68 to 6F: invalid opcode (R153) -/
  | b3_0F3A_68_6F (sel : BitVec 3)
  /-- 0F 3A 70 to 7F: invalid opcode (R153) -/
  | b3_0F3A_70_7F (sel : BitVec 4)
  /-- 0F 3A 80 to BF: invalid opcode (R153) -/
  | b3_0F3A_80_BF (sel : BitVec 6)
  /-- 0F 3A C0 to C7: invalid opcode (R153) -/
  | b3_0F3A_C0_C7 (sel : BitVec 3)
  /-- 0F 3A C8 to CB: invalid opcode (R153) -/
  | b3_0F3A_C8_CB (sel : BitVec 2)
  /-- 0F 3A CE to CF: invalid opcode (R153) -/
  | b3_0F3A_CE_CF (sel : BitVec 1)
  /-- 0F 3A D0 to D7: invalid opcode (R153) -/
  | b3_0F3A_D0_D7 (sel : BitVec 3)
  /-- 0F 3A D8 to DB: invalid opcode (R153) -/
  | b3_0F3A_D8_DB (sel : BitVec 2)
  /-- 0F 3A DC to DD: invalid opcode (R153) -/
  | b3_0F3A_DC_DD (sel : BitVec 1)
  /-- 0F 3A E0 to FF: invalid opcode (R153) -/
  | b3_0F3A_E0_FF (sel : BitVec 5)
  /-- 04: one-byte opcode (R156) -/
  | b1_04
  /-- 05: one-byte opcode (R156) -/
  | b1_05
  /-- 0C: one-byte opcode (R156) -/
  | b1_0C
  /-- 0D: one-byte opcode (R156) -/
  | b1_0D
  /-- 0E: one-byte opcode (R156) -/
  | b1_0E
  /-- 0F: escape (R150) -/
  | b1_0F
  /-- 14: one-byte opcode (R156) -/
  | b1_14
  /-- 15: one-byte opcode (R156) -/
  | b1_15
  /-- 1C: one-byte opcode (R156) -/
  | b1_1C
  /-- 1D: one-byte opcode (R156) -/
  | b1_1D
  /-- 24: one-byte opcode (R156) -/
  | b1_24
  /-- 25: one-byte opcode (R156) -/
  | b1_25
  /-- 26: legacy prefix (R142) -/
  | b1_26
  /-- 27: one-byte opcode (R156) -/
  | b1_27
  /-- 2C: one-byte opcode (R156) -/
  | b1_2C
  /-- 2D: one-byte opcode (R156) -/
  | b1_2D
  /-- 2E: legacy prefix (R142) -/
  | b1_2E
  /-- 2F: one-byte opcode (R156) -/
  | b1_2F
  /-- 34: one-byte opcode (R156) -/
  | b1_34
  /-- 35: one-byte opcode (R156) -/
  | b1_35
  /-- 36: legacy prefix (R142) -/
  | b1_36
  /-- 37: one-byte opcode (R156) -/
  | b1_37
  /-- 3C: one-byte opcode (R156) -/
  | b1_3C
  /-- 3D: one-byte opcode (R156) -/
  | b1_3D
  /-- 3E: legacy prefix (R142) -/
  | b1_3E
  /-- 3F: one-byte opcode (R156) -/
  | b1_3F
  /-- 68: one-byte opcode (R156) -/
  | b1_68
  /-- 69: one-byte opcode (R156) -/
  | b1_69
  /-- 6A: one-byte opcode (R156) -/
  | b1_6A
  /-- 6B: one-byte opcode (R156) -/
  | b1_6B
  /-- 80: one-byte opcode (R156) -/
  | b1_80
  /-- 81: one-byte opcode (R156) -/
  | b1_81
  /-- 9A: one-byte opcode (R156) -/
  | b1_9A
  /-- 9B: one-byte opcode (R156) -/
  | b1_9B
  /-- A8: one-byte opcode (R156) -/
  | b1_A8
  /-- A9: one-byte opcode (R156) -/
  | b1_A9
  /-- C2: one-byte opcode (R156) -/
  | b1_C2
  /-- C3: one-byte opcode (R156) -/
  | b1_C3
  /-- C6: one-byte opcode (R156) -/
  | b1_C6
  /-- C7: one-byte opcode (R156) -/
  | b1_C7
  /-- C8: one-byte opcode (R156) -/
  | b1_C8
  /-- C9: one-byte opcode (R156) -/
  | b1_C9
  /-- CA: one-byte opcode (R156) -/
  | b1_CA
  /-- CB: one-byte opcode (R156) -/
  | b1_CB
  /-- CC: one-byte opcode (R156) -/
  | b1_CC
  /-- CD: one-byte opcode (R156) -/
  | b1_CD
  /-- EA: one-byte opcode (R156) -/
  | b1_EA
  /-- EB: one-byte opcode (R156) -/
  | b1_EB
  /-- F0: legacy prefix (R142) -/
  | b1_F0
  /-- F1: one-byte opcode (R156) -/
  | b1_F1
  /-- F6: one-byte opcode (R156) -/
  | b1_F6
  /-- F7: one-byte opcode (R156) -/
  | b1_F7
  /-- 0F 04: invalid opcode (R153) -/
  | b2_0F_04
  /-- 0F 05: two-byte opcode (R154) -/
  | b2_0F_05
  /-- 0F 0A: invalid opcode (R153) -/
  | b2_0F_0A
  /-- 0F 0B: two-byte opcode (R154) -/
  | b2_0F_0B
  /-- 0F 0C: invalid opcode (R153) -/
  | b2_0F_0C
  /-- 0F 0D: two-byte opcode (R154) -/
  | b2_0F_0D
  /-- 0F 0E: two-byte opcode (R154) -/
  | b2_0F_0E
  /-- 0F 0F: two-byte opcode (R154) -/
  | b2_0F_0F
  /-- 0F 36: invalid opcode (R153) -/
  | b2_0F_36
  /-- 0F 37: two-byte opcode (R154) -/
  | b2_0F_37
  /-- 0F 38: escape (R152) -/
  | b2_0F_38
  /-- 0F 39: invalid opcode (R153) -/
  | b2_0F_39
  /-- 0F 3A: escape (R152) -/
  | b2_0F_3A
  /-- 0F 3B: invalid opcode (R153) -/
  | b2_0F_3B
  /-- 0F 76: two-byte opcode (R154) -/
  | b2_0F_76
  /-- 0F 77: two-byte opcode (R154) -/
  | b2_0F_77
  /-- 0F A2: two-byte opcode (R154) -/
  | b2_0F_A2
  /-- 0F A3: two-byte opcode (R154) -/
  | b2_0F_A3
  /-- 0F A4: two-byte opcode (R154) -/
  | b2_0F_A4
  /-- 0F A5: two-byte opcode (R154) -/
  | b2_0F_A5
  /-- 0F AA: two-byte opcode (R154) -/
  | b2_0F_AA
  /-- 0F AB: two-byte opcode (R154) -/
  | b2_0F_AB
  /-- 0F AC: two-byte opcode (R154) -/
  | b2_0F_AC
  /-- 0F AD: two-byte opcode (R154) -/
  | b2_0F_AD
  /-- 0F BA: two-byte opcode (R154) -/
  | b2_0F_BA
  /-- 0F BB: two-byte opcode (R154) -/
  | b2_0F_BB
  /-- 0F C2: two-byte opcode (R154) -/
  | b2_0F_C2
  /-- 0F C3: two-byte opcode (R154) -/
  | b2_0F_C3
  /-- 0F C6: two-byte opcode (R154) -/
  | b2_0F_C6
  /-- 0F C7: two-byte opcode (R154) -/
  | b2_0F_C7
  /-- 0F FE: two-byte opcode (R154) -/
  | b2_0F_FE
  /-- 0F FF: invalid opcode (R153) -/
  | b2_0F_FF
  /-- 0F 38 10: three-byte opcode (R152) -/
  | b3_0F38_10
  /-- 0F 38 11: invalid opcode (R153) -/
  | b3_0F38_11
  /-- 0F 38 16: invalid opcode (R153) -/
  | b3_0F38_16
  /-- 0F 38 17: three-byte opcode (R152) -/
  | b3_0F38_17
  /-- 0F 38 1E: three-byte opcode (R152) -/
  | b3_0F38_1E
  /-- 0F 38 1F: invalid opcode (R153) -/
  | b3_0F38_1F
  /-- 0F 38 36: invalid opcode (R153) -/
  | b3_0F38_36
  /-- 0F 38 37: three-byte opcode (R152) -/
  | b3_0F38_37
  /-- 0F 38 82: three-byte opcode (R152) -/
  | b3_0F38_82
  /-- 0F 38 83: invalid opcode (R153) -/
  | b3_0F38_83
  /-- 0F 38 DA: invalid opcode (R153) -/
  | b3_0F38_DA
  /-- 0F 38 DB: three-byte opcode (R152) -/
  | b3_0F38_DB
  /-- 0F 38 F6: three-byte opcode (R152) -/
  | b3_0F38_F6
  /-- 0F 38 F7: invalid opcode (R153) -/
  | b3_0F38_F7
  /-- 0F 3A 22: three-byte opcode (R152) -/
  | b3_0F3A_22
  /-- 0F 3A 23: invalid opcode (R153) -/
  | b3_0F3A_23
  /-- 0F 3A 42: three-byte opcode (R152) -/
  | b3_0F3A_42
  /-- 0F 3A 43: invalid opcode (R153) -/
  | b3_0F3A_43
  /-- 0F 3A 44: three-byte opcode (R152) -/
  | b3_0F3A_44
  /-- 0F 3A 45: invalid opcode (R153) -/
  | b3_0F3A_45
  /-- 0F 3A CC: three-byte opcode (R152) -/
  | b3_0F3A_CC
  /-- 0F 3A CD: invalid opcode (R153) -/
  | b3_0F3A_CD
  /-- 0F 3A DE: invalid opcode (R153) -/
  | b3_0F3A_DE
  /-- 0F 3A DF: three-byte opcode (R152) -/
  | b3_0F3A_DF
deriving DecidableEq, Repr

end Sys2Proof
end

