-- ==== Sys2Proof/WellFormed.lean ====
section
/-! DEFINITION. Which instructions the interface of an instance has: a view is at least one byte long (41_view.md R180),
a start address has VAW bits (42_iterator.md R223), and the bytes 0x40 to 0x4F are the REX row on X64 and one-byte opcodes
on X86 (30_encoding.md R83, R128). -/

namespace Sys2Proof

/-- R180: `len >= 1`. -/
def viewWellFormed (v : View) : Bool := decide (1 ≤ v.len)

/-- The instructions that an instance of architecture `arch` can be given. -/
def wellFormed (arch : Arch) (i : Instr) : Bool :=
  match i with
  | .reset => true
  | .decodeBreakdown _ _ => true
  | .decodeLen _ _ => true
  | .iterStart _ _ va0 _ => decide (va0.toNat < 2 ^ arch.vaw)
  | .iterNext => true
  | .iterSkip _ => true
  | .viewLen v => viewWellFormed v
  | .viewBytes v => viewWellFormed v
  | .viewReadU8 v _ => viewWellFormed v
  | .viewReadU16 v _ => viewWellFormed v
  | .viewReadU32 v _ => viewWellFormed v
  | .viewReadU64 v _ => viewWellFormed v
  | .viewReadI8 v _ => viewWellFormed v
  | .viewReadI16 v _ => viewWellFormed v
  | .viewReadI32 v _ => viewWellFormed v
  | .viewReadI64 v _ => viewWellFormed v
  | .viewWriteU8 v _ _ => viewWellFormed v
  | .viewWriteU16 v _ _ => viewWellFormed v
  | .viewWriteU32 v _ _ => viewWellFormed v
  | .viewWriteU64 v _ _ => viewWellFormed v
  | .viewWriteI8 v _ _ => viewWellFormed v
  | .viewWriteI16 v _ _ => viewWellFormed v
  | .viewWriteI32 v _ _ => viewWellFormed v
  | .viewWriteI64 v _ _ => viewWellFormed v
  | .viewEq a b => viewWellFormed a && viewWellFormed b
  | .viewCmp a b => viewWellFormed a && viewWellFormed b
  | .viewHash v => viewWellFormed v
  | .b1_00_03 _ => true
  | .b1_04 => true
  | .b1_05 => true
  | .b1_06_07 _ => true
  | .b1_08_0B _ => true
  | .b1_0C => true
  | .b1_0D => true
  | .b1_0E => true
  | .b1_0F => true
  | .b1_10_13 _ => true
  | .b1_14 => true
  | .b1_15 => true
  | .b1_16_17 _ => true
  | .b1_18_1B _ => true
  | .b1_1C => true
  | .b1_1D => true
  | .b1_1E_1F _ => true
  | .b1_20_23 _ => true
  | .b1_24 => true
  | .b1_25 => true
  | .b1_26 => true
  | .b1_27 => true
  | .b1_28_2B _ => true
  | .b1_2C => true
  | .b1_2D => true
  | .b1_2E => true
  | .b1_2F => true
  | .b1_30_33 _ => true
  | .b1_34 => true
  | .b1_35 => true
  | .b1_36 => true
  | .b1_37 => true
  | .b1_38_3B _ => true
  | .b1_3C => true
  | .b1_3D => true
  | .b1_3E => true
  | .b1_3F => true
  | .b1_40_5F sel => arch == .x86 || decide (0x10#5 ≤ sel)
  | .b1_60_61 _ => true
  | .b1_62_63 _ => true
  | .b1_64_67 _ => true
  | .b1_68 => true
  | .b1_69 => true
  | .b1_6A => true
  | .b1_6B => true
  | .b1_6C_6F _ => true
  | .b1_70_7F _ => true
  | .b1_80 => true
  | .b1_81 => true
  | .b1_82_83 _ => true
  | .b1_84_87 _ => true
  | .b1_88_8F _ => true
  | .b1_90_97 _ => true
  | .b1_98_99 _ => true
  | .b1_9A => true
  | .b1_9B => true
  | .b1_9C_9F _ => true
  | .b1_A0_A3 _ => true
  | .b1_A4_A7 _ => true
  | .b1_A8 => true
  | .b1_A9 => true
  | .b1_AA_AB _ => true
  | .b1_AC_AF _ => true
  | .b1_B0_B7 _ => true
  | .b1_B8_BF _ => true
  | .b1_C0_C1 _ => true
  | .b1_C2 => true
  | .b1_C3 => true
  | .b1_C4_C5 _ => true
  | .b1_C6 => true
  | .b1_C7 => true
  | .b1_C8 => true
  | .b1_C9 => true
  | .b1_CA => true
  | .b1_CB => true
  | .b1_CC => true
  | .b1_CD => true
  | .b1_CE_CF _ => true
  | .b1_D0_D3 _ => true
  | .b1_D4_D5 _ => true
  | .b1_D6_D7 _ => true
  | .b1_D8_DF _ => true
  | .b1_E0_E7 _ => true
  | .b1_E8_E9 _ => true
  | .b1_EA => true
  | .b1_EB => true
  | .b1_EC_EF _ => true
  | .b1_F0 => true
  | .b1_F1 => true
  | .b1_F2_F3 _ => true
  | .b1_F4_F5 _ => true
  | .b1_F6 => true
  | .b1_F7 => true
  | .b1_F8_FB _ => true
  | .b1_FC_FD _ => true
  | .b1_FE_FF _ => true
  | .rex_40_4F _ => arch == .x64
  | .b2_0F_00_03 _ => true
  | .b2_0F_04 => true
  | .b2_0F_05 => true
  | .b2_0F_06_07 _ => true
  | .b2_0F_08_09 _ => true
  | .b2_0F_0A => true
  | .b2_0F_0B => true
  | .b2_0F_0C => true
  | .b2_0F_0D => true
  | .b2_0F_0E => true
  | .b2_0F_0F => true
  | .b2_0F_10_1F _ => true
  | .b2_0F_20_23 _ => true
  | .b2_0F_24_27 _ => true
  | .b2_0F_28_2F _ => true
  | .b2_0F_30_33 _ => true
  | .b2_0F_34_35 _ => true
  | .b2_0F_36 => true
  | .b2_0F_37 => true
  | .b2_0F_38 => true
  | .b2_0F_39 => true
  | .b2_0F_3A => true
  | .b2_0F_3B => true
  | .b2_0F_3C_3F _ => true
  | .b2_0F_40_5F _ => true
  | .b2_0F_60_6F _ => true
  | .b2_0F_70_73 _ => true
  | .b2_0F_74_75 _ => true
  | .b2_0F_76 => true
  | .b2_0F_77 => true
  | .b2_0F_78_79 _ => true
  | .b2_0F_7A_7B _ => true
  | .b2_0F_7C_7F _ => true
  | .b2_0F_80_8F _ => true
  | .b2_0F_90_9F _ => true
  | .b2_0F_A0_A1 _ => true
  | .b2_0F_A2 => true
  | .b2_0F_A3 => true
  | .b2_0F_A4 => true
  | .b2_0F_A5 => true
  | .b2_0F_A6_A7 _ => true
  | .b2_0F_A8_A9 _ => true
  | .b2_0F_AA => true
  | .b2_0F_AB => true
  | .b2_0F_AC => true
  | .b2_0F_AD => true
  | .b2_0F_AE_AF _ => true
  | .b2_0F_B0_B7 _ => true
  | .b2_0F_B8_B9 _ => true
  | .b2_0F_BA => true
  | .b2_0F_BB => true
  | .b2_0F_BC_BF _ => true
  | .b2_0F_C0_C1 _ => true
  | .b2_0F_C2 => true
  | .b2_0F_C3 => true
  | .b2_0F_C4_C5 _ => true
  | .b2_0F_C6 => true
  | .b2_0F_C7 => true
  | .b2_0F_C8_CF _ => true
  | .b2_0F_D0_DF _ => true
  | .b2_0F_E0_EF _ => true
  | .b2_0F_F0_F7 _ => true
  | .b2_0F_F8_FB _ => true
  | .b2_0F_FC_FD _ => true
  | .b2_0F_FE => true
  | .b2_0F_FF => true
  | .b3_0F38_00_07 _ => true
  | .b3_0F38_08_0B _ => true
  | .b3_0F38_0C_0F _ => true
  | .b3_0F38_10 => true
  | .b3_0F38_11 => true
  | .b3_0F38_12_13 _ => true
  | .b3_0F38_14_15 _ => true
  | .b3_0F38_16 => true
  | .b3_0F38_17 => true
  | .b3_0F38_18_1B _ => true
  | .b3_0F38_1C_1D _ => true
  | .b3_0F38_1E => true
  | .b3_0F38_1F => true
  | .b3_0F38_20_23 _ => true
  | .b3_0F38_24_25 _ => true
  | .b3_0F38_26_27 _ => true
  | .b3_0F38_28_2B _ => true
  | .b3_0F38_2C_2F _ => true
  | .b3_0F38_30_33 _ => true
  | .b3_0F38_34_35 _ => true
  | .b3_0F38_36 => true
  | .b3_0F38_37 => true
  | .b3_0F38_38_3F _ => true
  | .b3_0F38_40_41 _ => true
  | .b3_0F38_42_43 _ => true
  | .b3_0F38_44_47 _ => true
  | .b3_0F38_48_4F _ => true
  | .b3_0F38_50_5F _ => true
  | .b3_0F38_60_7F _ => true
  | .b3_0F38_80_81 _ => true
  | .b3_0F38_82 => true
  | .b3_0F38_83 => true
  | .b3_0F38_84_87 _ => true
  | .b3_0F38_88_8F _ => true
  | .b3_0F38_90_9F _ => true
  | .b3_0F38_A0_BF _ => true
  | .b3_0F38_C0_C7 _ => true
  | .b3_0F38_C8_CB _ => true
  | .b3_0F38_CC_CD _ => true
  | .b3_0F38_CE_CF _ => true
  | .b3_0F38_D0_D7 _ => true
  | .b3_0F38_D8_D9 _ => true
  | .b3_0F38_DA => true
  | .b3_0F38_DB => true
  | .b3_0F38_DC_DF _ => true
  | .b3_0F38_E0_EF _ => true
  | .b3_0F38_F0_F1 _ => true
  | .b3_0F38_F2_F3 _ => true
  | .b3_0F38_F4_F5 _ => true
  | .b3_0F38_F6 => true
  | .b3_0F38_F7 => true
  | .b3_0F38_F8_FF _ => true
  | .b3_0F3A_00_07 _ => true
  | .b3_0F3A_08_0F _ => true
  | .b3_0F3A_10_13 _ => true
  | .b3_0F3A_14_17 _ => true
  | .b3_0F3A_18_1F _ => true
  | .b3_0F3A_20_21 _ => true
  | .b3_0F3A_22 => true
  | .b3_0F3A_23 => true
  | .b3_0F3A_24_27 _ => true
  | .b3_0F3A_28_2F _ => true
  | .b3_0F3A_30_3F _ => true
  | .b3_0F3A_40_41 _ => true
  | .b3_0F3A_42 => true
  | .b3_0F3A_43 => true
  | .b3_0F3A_44 => true
  | .b3_0F3A_45 => true
  | .b3_0F3A_46_47 _ => true
  | .b3_0F3A_48_4F _ => true
  | .b3_0F3A_50_5F _ => true
  | .b3_0F3A_60_63 _ => true
  | .b3_0F3A_64_67 _ => true
  | .b3_0F3A_68_6F _ => true
  | .b3_0F3A_70_7F _ => true
  | .b3_0F3A_80_BF _ => true
  | .b3_0F3A_C0_C7 _ => true
  | .b3_0F3A_C8_CB _ => true
  | .b3_0F3A_CC => true
  | .b3_0F3A_CD => true
  | .b3_0F3A_CE_CF _ => true
  | .b3_0F3A_D0_D7 _ => true
  | .b3_0F3A_D8_DB _ => true
  | .b3_0F3A_DC_DD _ => true
  | .b3_0F3A_DE => true
  | .b3_0F3A_DF => true
  | .b3_0F3A_E0_FF _ => true

/-- The rows of format COMMAND: the block's own commands (R18). The others are the byte-class rows. -/
def isCommand (i : Instr) : Bool :=
  match i with
  | .reset => true
  | .decodeBreakdown _ _ => true
  | .decodeLen _ _ => true
  | .iterStart _ _ _ _ => true
  | .iterNext => true
  | .iterSkip _ => true
  | .viewLen _ => true
  | .viewBytes _ => true
  | .viewReadU8 _ _ => true
  | .viewReadU16 _ _ => true
  | .viewReadU32 _ _ => true
  | .viewReadU64 _ _ => true
  | .viewReadI8 _ _ => true
  | .viewReadI16 _ _ => true
  | .viewReadI32 _ _ => true
  | .viewReadI64 _ _ => true
  | .viewWriteU8 _ _ _ => true
  | .viewWriteU16 _ _ _ => true
  | .viewWriteU32 _ _ _ => true
  | .viewWriteU64 _ _ _ => true
  | .viewWriteI8 _ _ _ => true
  | .viewWriteI16 _ _ _ => true
  | .viewWriteI32 _ _ _ => true
  | .viewWriteI64 _ _ _ => true
  | .viewEq _ _ => true
  | .viewCmp _ _ => true
  | .viewHash _ => true
  | .b1_00_03 _ => false
  | .b1_04 => false
  | .b1_05 => false
  | .b1_06_07 _ => false
  | .b1_08_0B _ => false
  | .b1_0C => false
  | .b1_0D => false
  | .b1_0E => false
  | .b1_0F => false
  | .b1_10_13 _ => false
  | .b1_14 => false
  | .b1_15 => false
  | .b1_16_17 _ => false
  | .b1_18_1B _ => false
  | .b1_1C => false
  | .b1_1D => false
  | .b1_1E_1F _ => false
  | .b1_20_23 _ => false
  | .b1_24 => false
  | .b1_25 => false
  | .b1_26 => false
  | .b1_27 => false
  | .b1_28_2B _ => false
  | .b1_2C => false
  | .b1_2D => false
  | .b1_2E => false
  | .b1_2F => false
  | .b1_30_33 _ => false
  | .b1_34 => false
  | .b1_35 => false
  | .b1_36 => false
  | .b1_37 => false
  | .b1_38_3B _ => false
  | .b1_3C => false
  | .b1_3D => false
  | .b1_3E => false
  | .b1_3F => false
  | .b1_40_5F _ => false
  | .b1_60_61 _ => false
  | .b1_62_63 _ => false
  | .b1_64_67 _ => false
  | .b1_68 => false
  | .b1_69 => false
  | .b1_6A => false
  | .b1_6B => false
  | .b1_6C_6F _ => false
  | .b1_70_7F _ => false
  | .b1_80 => false
  | .b1_81 => false
  | .b1_82_83 _ => false
  | .b1_84_87 _ => false
  | .b1_88_8F _ => false
  | .b1_90_97 _ => false
  | .b1_98_99 _ => false
  | .b1_9A => false
  | .b1_9B => false
  | .b1_9C_9F _ => false
  | .b1_A0_A3 _ => false
  | .b1_A4_A7 _ => false
  | .b1_A8 => false
  | .b1_A9 => false
  | .b1_AA_AB _ => false
  | .b1_AC_AF _ => false
  | .b1_B0_B7 _ => false
  | .b1_B8_BF _ => false
  | .b1_C0_C1 _ => false
  | .b1_C2 => false
  | .b1_C3 => false
  | .b1_C4_C5 _ => false
  | .b1_C6 => false
  | .b1_C7 => false
  | .b1_C8 => false
  | .b1_C9 => false
  | .b1_CA => false
  | .b1_CB => false
  | .b1_CC => false
  | .b1_CD => false
  | .b1_CE_CF _ => false
  | .b1_D0_D3 _ => false
  | .b1_D4_D5 _ => false
  | .b1_D6_D7 _ => false
  | .b1_D8_DF _ => false
  | .b1_E0_E7 _ => false
  | .b1_E8_E9 _ => false
  | .b1_EA => false
  | .b1_EB => false
  | .b1_EC_EF _ => false
  | .b1_F0 => false
  | .b1_F1 => false
  | .b1_F2_F3 _ => false
  | .b1_F4_F5 _ => false
  | .b1_F6 => false
  | .b1_F7 => false
  | .b1_F8_FB _ => false
  | .b1_FC_FD _ => false
  | .b1_FE_FF _ => false
  | .rex_40_4F _ => false
  | .b2_0F_00_03 _ => false
  | .b2_0F_04 => false
  | .b2_0F_05 => false
  | .b2_0F_06_07 _ => false
  | .b2_0F_08_09 _ => false
  | .b2_0F_0A => false
  | .b2_0F_0B => false
  | .b2_0F_0C => false
  | .b2_0F_0D => false
  | .b2_0F_0E => false
  | .b2_0F_0F => false
  | .b2_0F_10_1F _ => false
  | .b2_0F_20_23 _ => false
  | .b2_0F_24_27 _ => false
  | .b2_0F_28_2F _ => false
  | .b2_0F_30_33 _ => false
  | .b2_0F_34_35 _ => false
  | .b2_0F_36 => false
  | .b2_0F_37 => false
  | .b2_0F_38 => false
  | .b2_0F_39 => false
  | .b2_0F_3A => false
  | .b2_0F_3B => false
  | .b2_0F_3C_3F _ => false
  | .b2_0F_40_5F _ => false
  | .b2_0F_60_6F _ => false
  | .b2_0F_70_73 _ => false
  | .b2_0F_74_75 _ => false
  | .b2_0F_76 => false
  | .b2_0F_77 => false
  | .b2_0F_78_79 _ => false
  | .b2_0F_7A_7B _ => false
  | .b2_0F_7C_7F _ => false
  | .b2_0F_80_8F _ => false
  | .b2_0F_90_9F _ => false
  | .b2_0F_A0_A1 _ => false
  | .b2_0F_A2 => false
  | .b2_0F_A3 => false
  | .b2_0F_A4 => false
  | .b2_0F_A5 => false
  | .b2_0F_A6_A7 _ => false
  | .b2_0F_A8_A9 _ => false
  | .b2_0F_AA => false
  | .b2_0F_AB => false
  | .b2_0F_AC => false
  | .b2_0F_AD => false
  | .b2_0F_AE_AF _ => false
  | .b2_0F_B0_B7 _ => false
  | .b2_0F_B8_B9 _ => false
  | .b2_0F_BA => false
  | .b2_0F_BB => false
  | .b2_0F_BC_BF _ => false
  | .b2_0F_C0_C1 _ => false
  | .b2_0F_C2 => false
  | .b2_0F_C3 => false
  | .b2_0F_C4_C5 _ => false
  | .b2_0F_C6 => false
  | .b2_0F_C7 => false
  | .b2_0F_C8_CF _ => false
  | .b2_0F_D0_DF _ => false
  | .b2_0F_E0_EF _ => false
  | .b2_0F_F0_F7 _ => false
  | .b2_0F_F8_FB _ => false
  | .b2_0F_FC_FD _ => false
  | .b2_0F_FE => false
  | .b2_0F_FF => false
  | .b3_0F38_00_07 _ => false
  | .b3_0F38_08_0B _ => false
  | .b3_0F38_0C_0F _ => false
  | .b3_0F38_10 => false
  | .b3_0F38_11 => false
  | .b3_0F38_12_13 _ => false
  | .b3_0F38_14_15 _ => false
  | .b3_0F38_16 => false
  | .b3_0F38_17 => false
  | .b3_0F38_18_1B _ => false
  | .b3_0F38_1C_1D _ => false
  | .b3_0F38_1E => false
  | .b3_0F38_1F => false
  | .b3_0F38_20_23 _ => false
  | .b3_0F38_24_25 _ => false
  | .b3_0F38_26_27 _ => false
  | .b3_0F38_28_2B _ => false
  | .b3_0F38_2C_2F _ => false
  | .b3_0F38_30_33 _ => false
  | .b3_0F38_34_35 _ => false
  | .b3_0F38_36 => false
  | .b3_0F38_37 => false
  | .b3_0F38_38_3F _ => false
  | .b3_0F38_40_41 _ => false
  | .b3_0F38_42_43 _ => false
  | .b3_0F38_44_47 _ => false
  | .b3_0F38_48_4F _ => false
  | .b3_0F38_50_5F _ => false
  | .b3_0F38_60_7F _ => false
  | .b3_0F38_80_81 _ => false
  | .b3_0F38_82 => false
  | .b3_0F38_83 => false
  | .b3_0F38_84_87 _ => false
  | .b3_0F38_88_8F _ => false
  | .b3_0F38_90_9F _ => false
  | .b3_0F38_A0_BF _ => false
  | .b3_0F38_C0_C7 _ => false
  | .b3_0F38_C8_CB _ => false
  | .b3_0F38_CC_CD _ => false
  | .b3_0F38_CE_CF _ => false
  | .b3_0F38_D0_D7 _ => false
  | .b3_0F38_D8_D9 _ => false
  | .b3_0F38_DA => false
  | .b3_0F38_DB => false
  | .b3_0F38_DC_DF _ => false
  | .b3_0F38_E0_EF _ => false
  | .b3_0F38_F0_F1 _ => false
  | .b3_0F38_F2_F3 _ => false
  | .b3_0F38_F4_F5 _ => false
  | .b3_0F38_F6 => false
  | .b3_0F38_F7 => false
  | .b3_0F38_F8_FF _ => false
  | .b3_0F3A_00_07 _ => false
  | .b3_0F3A_08_0F _ => false
  | .b3_0F3A_10_13 _ => false
  | .b3_0F3A_14_17 _ => false
  | .b3_0F3A_18_1F _ => false
  | .b3_0F3A_20_21 _ => false
  | .b3_0F3A_22 => false
  | .b3_0F3A_23 => false
  | .b3_0F3A_24_27 _ => false
  | .b3_0F3A_28_2F _ => false
  | .b3_0F3A_30_3F _ => false
  | .b3_0F3A_40_41 _ => false
  | .b3_0F3A_42 => false
  | .b3_0F3A_43 => false
  | .b3_0F3A_44 => false
  | .b3_0F3A_45 => false
  | .b3_0F3A_46_47 _ => false
  | .b3_0F3A_48_4F _ => false
  | .b3_0F3A_50_5F _ => false
  | .b3_0F3A_60_63 _ => false
  | .b3_0F3A_64_67 _ => false
  | .b3_0F3A_68_6F _ => false
  | .b3_0F3A_70_7F _ => false
  | .b3_0F3A_80_BF _ => false
  | .b3_0F3A_C0_C7 _ => false
  | .b3_0F3A_C8_CB _ => false
  | .b3_0F3A_CC => false
  | .b3_0F3A_CD => false
  | .b3_0F3A_CE_CF _ => false
  | .b3_0F3A_D0_D7 _ => false
  | .b3_0F3A_D8_DB _ => false
  | .b3_0F3A_DC_DD _ => false
  | .b3_0F3A_DE => false
  | .b3_0F3A_DF => false
  | .b3_0F3A_E0_FF _ => false

end Sys2Proof
end

