-- ==== Sys2Proof/Decode.lean ====
section
/-! DEFINITION. Decoding and encoding. A command reaches the block as a message: its ordinal of the opcode table, then its
operands (the spec gives commands no encoding, 00_scope.md R18: assumption log 2). An x86 instruction reaches it as the
bytes of a slice; the opcode map and the row are found by the first bytes (30_encoding.md R84, R85, R128). -/

namespace Sys2Proof

open Machine

/-- Why bytes are no command message or no x86 text. -/
inductive DecodeError where
  /-- no byte at all -/
  | empty
  /-- the first byte is no ordinal of rule R18 -/
  | unknownOrdinal (b : Byte)
  /-- the message ends inside an operand -/
  | truncated
  /-- a number with a superfluous group of zeros -/
  | overlongNumber
  /-- a one-bit operand that is neither 0 nor 1 -/
  | badBit (b : Byte)
  /-- bytes are left over after the last operand -/
  | trailing (n : Nat)
deriving DecidableEq, Repr

/-- One byte of a message. -/
def takeByte : List Byte → Except DecodeError (Byte × List Byte)
  | [] => .error .truncated
  | b :: rest => .ok (b, rest)

/-- A one-bit operand: the byte 0 or 1. -/
def takeBit (bs : List Byte) : Except DecodeError (Bool × List Byte) :=
  match takeByte bs with
  | .error e => .error e
  | .ok (b, rest) =>
    if b = 0x00#8 then .ok (false, rest) else if b = 0x01#8 then .ok (true, rest) else .error (.badBit b)

/-- A natural number (R9: unbounded): groups of 7 bits, the least significant first, bit 7 set on all but the last. -/
def takeNat : List Byte → Except DecodeError (Nat × List Byte)
  | [] => .error .truncated
  | b :: rest =>
    if b.toNat < 128 then .ok (b.toNat, rest)
    else
      match takeNat rest with
      | .error e => .error e
      | .ok (n, rest') => if n = 0 then .error .overlongNumber else .ok (b.toNat - 128 + 128 * n, rest')

/-- `w` bytes, least significant first, as a `8w`-bit value. -/
def takeWord : (w : Nat) → List Byte → Except DecodeError (BitVec (8 * w) × List Byte)
  | w, bs => if bs.length < w then .error .truncated else .ok (BitVec.ofNat (8 * w) (leValue (bs.take w)), bs.drop w)

/-- A view: base, length less one (R180: `len >= 1`), the `mut` bit. -/
def takeView (bs : List Byte) : Except DecodeError (View × List Byte) :=
  match takeNat bs with
  | .error e => .error e
  | .ok (base, bs) =>
    match takeNat bs with
    | .error e => .error e
    | .ok (less, bs) =>
      match takeBit bs with
      | .error e => .error e
      | .ok (m, bs) => .ok (View.mk base (less + 1) m, bs)

/-- Two natural numbers: a slice `(base, len)`. -/
def takeSlice (make : Nat → Nat → Instr) (bs : List Byte) : Except DecodeError (Instr × List Byte) :=
  match takeNat bs with
  | .error e => .error e
  | .ok (base, bs) =>
    match takeNat bs with
    | .error e => .error e
    | .ok (len, bs) => .ok (make base len, bs)

/-- The operands of ITER_START. -/
def takeStart (bs : List Byte) : Except DecodeError (Instr × List Byte) :=
  match takeNat bs with
  | .error e => .error e
  | .ok (base, bs) =>
    match takeNat bs with
    | .error e => .error e
    | .ok (len, bs) =>
      match takeWord 8 bs with
      | .error e => .error e
      | .ok (va0, bs) =>
        match takeBit bs with
        | .error e => .error e
        | .ok (m, bs) => .ok (.iterStart base len va0 m, bs)

/-- One view. -/
def takeOneView (make : View → Instr) (bs : List Byte) : Except DecodeError (Instr × List Byte) :=
  match takeView bs with
  | .error e => .error e
  | .ok (v, bs) => .ok (make v, bs)

/-- Two views. -/
def takeTwoViews (make : View → View → Instr) (bs : List Byte) : Except DecodeError (Instr × List Byte) :=
  match takeView bs with
  | .error e => .error e
  | .ok (a, bs) =>
    match takeView bs with
    | .error e => .error e
    | .ok (b, bs) => .ok (make a b, bs)

/-- The operands of a typed read. -/
def takeRead (make : View → Nat → Instr) (bs : List Byte) : Except DecodeError (Instr × List Byte) :=
  match takeView bs with
  | .error e => .error e
  | .ok (v, bs) =>
    match takeNat bs with
    | .error e => .error e
    | .ok (off, bs) => .ok (make v off, bs)

/-- The operands of a typed write of `w` bytes. -/
def takeWrite (w : Nat) (make : View → Nat → BitVec (8 * w) → Instr) (bs : List Byte) :
    Except DecodeError (Instr × List Byte) :=
  match takeView bs with
  | .error e => .error e
  | .ok (v, bs) =>
    match takeNat bs with
    | .error e => .error e
    | .ok (off, bs) =>
      match takeWord w bs with
      | .error e => .error e
      | .ok (x, bs) => .ok (make v off x, bs)

/-- The operands that follow the ordinal `n` of a command (the ordinals are the rows of the opcode table, R18). -/
def decodeOperands (n : Nat) (bs : List Byte) : Except DecodeError (Instr × List Byte) :=
  match n with
  | 0x00 => .ok (.reset, bs)
  | 0x01 => takeSlice .decodeBreakdown bs
  | 0x02 => takeSlice .decodeLen bs
  | 0x03 => takeStart bs
  | 0x04 => .ok (.iterNext, bs)
  | 0x05 =>
    match takeNat bs with
    | .error e => .error e
    | .ok (k, bs) => .ok (.iterSkip k, bs)
  | 0x06 => takeOneView .viewLen bs
  | 0x07 => takeOneView .viewBytes bs
  | 0x08 => takeRead .viewReadU8 bs
  | 0x09 => takeRead .viewReadU16 bs
  | 0x0A => takeRead .viewReadU32 bs
  | 0x0B => takeRead .viewReadU64 bs
  | 0x0C => takeRead .viewReadI8 bs
  | 0x0D => takeRead .viewReadI16 bs
  | 0x0E => takeRead .viewReadI32 bs
  | 0x0F => takeRead .viewReadI64 bs
  | 0x10 => takeWrite 1 .viewWriteU8 bs
  | 0x11 => takeWrite 2 .viewWriteU16 bs
  | 0x12 => takeWrite 4 .viewWriteU32 bs
  | 0x13 => takeWrite 8 .viewWriteU64 bs
  | 0x14 => takeWrite 1 .viewWriteI8 bs
  | 0x15 => takeWrite 2 .viewWriteI16 bs
  | 0x16 => takeWrite 4 .viewWriteI32 bs
  | 0x17 => takeWrite 8 .viewWriteI64 bs
  | 0x18 => takeTwoViews .viewEq bs
  | 0x19 => takeTwoViews .viewCmp bs
  | 0x1A => takeOneView .viewHash bs
  | n => .error (.unknownOrdinal (BitVec.ofNat 8 n))

/-- The command at the start of a byte sequence, and the bytes after it. -/
def decodeCommand : List Byte → Except DecodeError (Instr × List Byte)
  | [] => .error .empty
  | b :: rest => decodeOperands b.toNat rest

/-- A command message: exactly one command and nothing after it. -/
def decodeMessage (bs : List Byte) : Except DecodeError Instr :=
  match decodeCommand bs with
  | .error e => .error e
  | .ok (i, rest) => if rest.isEmpty then .ok i else .error (.trailing rest.length)

/-- The row of the one-byte map that holds the byte `op` (R85 (a), R114 to R117, R123). -/
def decodeOne (op : Byte) : Instr :=
  if op ≤ 0x03#8 then .b1_00_03 (op.setWidth 2)
  else if op ≤ 0x04#8 then .b1_04
  else if op ≤ 0x05#8 then .b1_05
  else if op ≤ 0x07#8 then .b1_06_07 (op.setWidth 1)
  else if op ≤ 0x0B#8 then .b1_08_0B (op.setWidth 2)
  else if op ≤ 0x0C#8 then .b1_0C
  else if op ≤ 0x0D#8 then .b1_0D
  else if op ≤ 0x0E#8 then .b1_0E
  else if op ≤ 0x0F#8 then .b1_0F
  else if op ≤ 0x13#8 then .b1_10_13 (op.setWidth 2)
  else if op ≤ 0x14#8 then .b1_14
  else if op ≤ 0x15#8 then .b1_15
  else if op ≤ 0x17#8 then .b1_16_17 (op.setWidth 1)
  else if op ≤ 0x1B#8 then .b1_18_1B (op.setWidth 2)
  else if op ≤ 0x1C#8 then .b1_1C
  else if op ≤ 0x1D#8 then .b1_1D
  else if op ≤ 0x1F#8 then .b1_1E_1F (op.setWidth 1)
  else if op ≤ 0x23#8 then .b1_20_23 (op.setWidth 2)
  else if op ≤ 0x24#8 then .b1_24
  else if op ≤ 0x25#8 then .b1_25
  else if op ≤ 0x26#8 then .b1_26
  else if op ≤ 0x27#8 then .b1_27
  else if op ≤ 0x2B#8 then .b1_28_2B (op.setWidth 2)
  else if op ≤ 0x2C#8 then .b1_2C
  else if op ≤ 0x2D#8 then .b1_2D
  else if op ≤ 0x2E#8 then .b1_2E
  else if op ≤ 0x2F#8 then .b1_2F
  else if op ≤ 0x33#8 then .b1_30_33 (op.setWidth 2)
  else if op ≤ 0x34#8 then .b1_34
  else if op ≤ 0x35#8 then .b1_35
  else if op ≤ 0x36#8 then .b1_36
  else if op ≤ 0x37#8 then .b1_37
  else if op ≤ 0x3B#8 then .b1_38_3B (op.setWidth 2)
  else if op ≤ 0x3C#8 then .b1_3C
  else if op ≤ 0x3D#8 then .b1_3D
  else if op ≤ 0x3E#8 then .b1_3E
  else if op ≤ 0x3F#8 then .b1_3F
  else if op ≤ 0x5F#8 then .b1_40_5F (op.setWidth 5)
  else if op ≤ 0x61#8 then .b1_60_61 (op.setWidth 1)
  else if op ≤ 0x63#8 then .b1_62_63 (op.setWidth 1)
  else if op ≤ 0x67#8 then .b1_64_67 (op.setWidth 2)
  else if op ≤ 0x68#8 then .b1_68
  else if op ≤ 0x69#8 then .b1_69
  else if op ≤ 0x6A#8 then .b1_6A
  else if op ≤ 0x6B#8 then .b1_6B
  else if op ≤ 0x6F#8 then .b1_6C_6F (op.setWidth 2)
  else if op ≤ 0x7F#8 then .b1_70_7F (op.setWidth 4)
  else if op ≤ 0x80#8 then .b1_80
  else if op ≤ 0x81#8 then .b1_81
  else if op ≤ 0x83#8 then .b1_82_83 (op.setWidth 1)
  else if op ≤ 0x87#8 then .b1_84_87 (op.setWidth 2)
  else if op ≤ 0x8F#8 then .b1_88_8F (op.setWidth 3)
  else if op ≤ 0x97#8 then .b1_90_97 (op.setWidth 3)
  else if op ≤ 0x99#8 then .b1_98_99 (op.setWidth 1)
  else if op ≤ 0x9A#8 then .b1_9A
  else if op ≤ 0x9B#8 then .b1_9B
  else if op ≤ 0x9F#8 then .b1_9C_9F (op.setWidth 2)
  else if op ≤ 0xA3#8 then .b1_A0_A3 (op.setWidth 2)
  else if op ≤ 0xA7#8 then .b1_A4_A7 (op.setWidth 2)
  else if op ≤ 0xA8#8 then .b1_A8
  else if op ≤ 0xA9#8 then .b1_A9
  else if op ≤ 0xAB#8 then .b1_AA_AB (op.setWidth 1)
  else if op ≤ 0xAF#8 then .b1_AC_AF (op.setWidth 2)
  else if op ≤ 0xB7#8 then .b1_B0_B7 (op.setWidth 3)
  else if op ≤ 0xBF#8 then .b1_B8_BF (op.setWidth 3)
  else if op ≤ 0xC1#8 then .b1_C0_C1 (op.setWidth 1)
  else if op ≤ 0xC2#8 then .b1_C2
  else if op ≤ 0xC3#8 then .b1_C3
  else if op ≤ 0xC5#8 then .b1_C4_C5 (op.setWidth 1)
  else if op ≤ 0xC6#8 then .b1_C6
  else if op ≤ 0xC7#8 then .b1_C7
  else if op ≤ 0xC8#8 then .b1_C8
  else if op ≤ 0xC9#8 then .b1_C9
  else if op ≤ 0xCA#8 then .b1_CA
  else if op ≤ 0xCB#8 then .b1_CB
  else if op ≤ 0xCC#8 then .b1_CC
  else if op ≤ 0xCD#8 then .b1_CD
  else if op ≤ 0xCF#8 then .b1_CE_CF (op.setWidth 1)
  else if op ≤ 0xD3#8 then .b1_D0_D3 (op.setWidth 2)
  else if op ≤ 0xD5#8 then .b1_D4_D5 (op.setWidth 1)
  else if op ≤ 0xD7#8 then .b1_D6_D7 (op.setWidth 1)
  else if op ≤ 0xDF#8 then .b1_D8_DF (op.setWidth 3)
  else if op ≤ 0xE7#8 then .b1_E0_E7 (op.setWidth 3)
  else if op ≤ 0xE9#8 then .b1_E8_E9 (op.setWidth 1)
  else if op ≤ 0xEA#8 then .b1_EA
  else if op ≤ 0xEB#8 then .b1_EB
  else if op ≤ 0xEF#8 then .b1_EC_EF (op.setWidth 2)
  else if op ≤ 0xF0#8 then .b1_F0
  else if op ≤ 0xF1#8 then .b1_F1
  else if op ≤ 0xF3#8 then .b1_F2_F3 (op.setWidth 1)
  else if op ≤ 0xF5#8 then .b1_F4_F5 (op.setWidth 1)
  else if op ≤ 0xF6#8 then .b1_F6
  else if op ≤ 0xF7#8 then .b1_F7
  else if op ≤ 0xFB#8 then .b1_F8_FB (op.setWidth 2)
  else if op ≤ 0xFD#8 then .b1_FC_FD (op.setWidth 1)
  else .b1_FE_FF (op.setWidth 1)

/-- The row of the two-byte map that holds 0F `op` (R85 (b), R118 to R120). -/
def decodeTwo (op : Byte) : Instr :=
  if op ≤ 0x03#8 then .b2_0F_00_03 (op.setWidth 2)
  else if op ≤ 0x04#8 then .b2_0F_04
  else if op ≤ 0x05#8 then .b2_0F_05
  else if op ≤ 0x07#8 then .b2_0F_06_07 (op.setWidth 1)
  else if op ≤ 0x09#8 then .b2_0F_08_09 (op.setWidth 1)
  else if op ≤ 0x0A#8 then .b2_0F_0A
  else if op ≤ 0x0B#8 then .b2_0F_0B
  else if op ≤ 0x0C#8 then .b2_0F_0C
  else if op ≤ 0x0D#8 then .b2_0F_0D
  else if op ≤ 0x0E#8 then .b2_0F_0E
  else if op ≤ 0x0F#8 then .b2_0F_0F
  else if op ≤ 0x1F#8 then .b2_0F_10_1F (op.setWidth 4)
  else if op ≤ 0x23#8 then .b2_0F_20_23 (op.setWidth 2)
  else if op ≤ 0x27#8 then .b2_0F_24_27 (op.setWidth 2)
  else if op ≤ 0x2F#8 then .b2_0F_28_2F (op.setWidth 3)
  else if op ≤ 0x33#8 then .b2_0F_30_33 (op.setWidth 2)
  else if op ≤ 0x35#8 then .b2_0F_34_35 (op.setWidth 1)
  else if op ≤ 0x36#8 then .b2_0F_36
  else if op ≤ 0x37#8 then .b2_0F_37
  else if op ≤ 0x38#8 then .b2_0F_38
  else if op ≤ 0x39#8 then .b2_0F_39
  else if op ≤ 0x3A#8 then .b2_0F_3A
  else if op ≤ 0x3B#8 then .b2_0F_3B
  else if op ≤ 0x3F#8 then .b2_0F_3C_3F (op.setWidth 2)
  else if op ≤ 0x5F#8 then .b2_0F_40_5F (op.setWidth 5)
  else if op ≤ 0x6F#8 then .b2_0F_60_6F (op.setWidth 4)
  else if op ≤ 0x73#8 then .b2_0F_70_73 (op.setWidth 2)
  else if op ≤ 0x75#8 then .b2_0F_74_75 (op.setWidth 1)
  else if op ≤ 0x76#8 then .b2_0F_76
  else if op ≤ 0x77#8 then .b2_0F_77
  else if op ≤ 0x79#8 then .b2_0F_78_79 (op.setWidth 1)
  else if op ≤ 0x7B#8 then .b2_0F_7A_7B (op.setWidth 1)
  else if op ≤ 0x7F#8 then .b2_0F_7C_7F (op.setWidth 2)
  else if op ≤ 0x8F#8 then .b2_0F_80_8F (op.setWidth 4)
  else if op ≤ 0x9F#8 then .b2_0F_90_9F (op.setWidth 4)
  else if op ≤ 0xA1#8 then .b2_0F_A0_A1 (op.setWidth 1)
  else if op ≤ 0xA2#8 then .b2_0F_A2
  else if op ≤ 0xA3#8 then .b2_0F_A3
  else if op ≤ 0xA4#8 then .b2_0F_A4
  else if op ≤ 0xA5#8 then .b2_0F_A5
  else if op ≤ 0xA7#8 then .b2_0F_A6_A7 (op.setWidth 1)
  else if op ≤ 0xA9#8 then .b2_0F_A8_A9 (op.setWidth 1)
  else if op ≤ 0xAA#8 then .b2_0F_AA
  else if op ≤ 0xAB#8 then .b2_0F_AB
  else if op ≤ 0xAC#8 then .b2_0F_AC
  else if op ≤ 0xAD#8 then .b2_0F_AD
  else if op ≤ 0xAF#8 then .b2_0F_AE_AF (op.setWidth 1)
  else if op ≤ 0xB7#8 then .b2_0F_B0_B7 (op.setWidth 3)
  else if op ≤ 0xB9#8 then .b2_0F_B8_B9 (op.setWidth 1)
  else if op ≤ 0xBA#8 then .b2_0F_BA
  else if op ≤ 0xBB#8 then .b2_0F_BB
  else if op ≤ 0xBF#8 then .b2_0F_BC_BF (op.setWidth 2)
  else if op ≤ 0xC1#8 then .b2_0F_C0_C1 (op.setWidth 1)
  else if op ≤ 0xC2#8 then .b2_0F_C2
  else if op ≤ 0xC3#8 then .b2_0F_C3
  else if op ≤ 0xC5#8 then .b2_0F_C4_C5 (op.setWidth 1)
  else if op ≤ 0xC6#8 then .b2_0F_C6
  else if op ≤ 0xC7#8 then .b2_0F_C7
  else if op ≤ 0xCF#8 then .b2_0F_C8_CF (op.setWidth 3)
  else if op ≤ 0xDF#8 then .b2_0F_D0_DF (op.setWidth 4)
  else if op ≤ 0xEF#8 then .b2_0F_E0_EF (op.setWidth 4)
  else if op ≤ 0xF7#8 then .b2_0F_F0_F7 (op.setWidth 3)
  else if op ≤ 0xFB#8 then .b2_0F_F8_FB (op.setWidth 2)
  else if op ≤ 0xFD#8 then .b2_0F_FC_FD (op.setWidth 1)
  else if op ≤ 0xFE#8 then .b2_0F_FE
  else .b2_0F_FF

/-- The row of the 0F 38 map that holds 0F 38 `op` (R85 (c), R121). -/
def decodeThree38 (op : Byte) : Instr :=
  if op ≤ 0x07#8 then .b3_0F38_00_07 (op.setWidth 3)
  else if op ≤ 0x0B#8 then .b3_0F38_08_0B (op.setWidth 2)
  else if op ≤ 0x0F#8 then .b3_0F38_0C_0F (op.setWidth 2)
  else if op ≤ 0x10#8 then .b3_0F38_10
  else if op ≤ 0x11#8 then .b3_0F38_11
  else if op ≤ 0x13#8 then .b3_0F38_12_13 (op.setWidth 1)
  else if op ≤ 0x15#8 then .b3_0F38_14_15 (op.setWidth 1)
  else if op ≤ 0x16#8 then .b3_0F38_16
  else if op ≤ 0x17#8 then .b3_0F38_17
  else if op ≤ 0x1B#8 then .b3_0F38_18_1B (op.setWidth 2)
  else if op ≤ 0x1D#8 then .b3_0F38_1C_1D (op.setWidth 1)
  else if op ≤ 0x1E#8 then .b3_0F38_1E
  else if op ≤ 0x1F#8 then .b3_0F38_1F
  else if op ≤ 0x23#8 then .b3_0F38_20_23 (op.setWidth 2)
  else if op ≤ 0x25#8 then .b3_0F38_24_25 (op.setWidth 1)
  else if op ≤ 0x27#8 then .b3_0F38_26_27 (op.setWidth 1)
  else if op ≤ 0x2B#8 then .b3_0F38_28_2B (op.setWidth 2)
  else if op ≤ 0x2F#8 then .b3_0F38_2C_2F (op.setWidth 2)
  else if op ≤ 0x33#8 then .b3_0F38_30_33 (op.setWidth 2)
  else if op ≤ 0x35#8 then .b3_0F38_34_35 (op.setWidth 1)
  else if op ≤ 0x36#8 then .b3_0F38_36
  else if op ≤ 0x37#8 then .b3_0F38_37
  else if op ≤ 0x3F#8 then .b3_0F38_38_3F (op.setWidth 3)
  else if op ≤ 0x41#8 then .b3_0F38_40_41 (op.setWidth 1)
  else if op ≤ 0x43#8 then .b3_0F38_42_43 (op.setWidth 1)
  else if op ≤ 0x47#8 then .b3_0F38_44_47 (op.setWidth 2)
  else if op ≤ 0x4F#8 then .b3_0F38_48_4F (op.setWidth 3)
  else if op ≤ 0x5F#8 then .b3_0F38_50_5F (op.setWidth 4)
  else if op ≤ 0x7F#8 then .b3_0F38_60_7F (op.setWidth 5)
  else if op ≤ 0x81#8 then .b3_0F38_80_81 (op.setWidth 1)
  else if op ≤ 0x82#8 then .b3_0F38_82
  else if op ≤ 0x83#8 then .b3_0F38_83
  else if op ≤ 0x87#8 then .b3_0F38_84_87 (op.setWidth 2)
  else if op ≤ 0x8F#8 then .b3_0F38_88_8F (op.setWidth 3)
  else if op ≤ 0x9F#8 then .b3_0F38_90_9F (op.setWidth 4)
  else if op ≤ 0xBF#8 then .b3_0F38_A0_BF (op.setWidth 5)
  else if op ≤ 0xC7#8 then .b3_0F38_C0_C7 (op.setWidth 3)
  else if op ≤ 0xCB#8 then .b3_0F38_C8_CB (op.setWidth 2)
  else if op ≤ 0xCD#8 then .b3_0F38_CC_CD (op.setWidth 1)
  else if op ≤ 0xCF#8 then .b3_0F38_CE_CF (op.setWidth 1)
  else if op ≤ 0xD7#8 then .b3_0F38_D0_D7 (op.setWidth 3)
  else if op ≤ 0xD9#8 then .b3_0F38_D8_D9 (op.setWidth 1)
  else if op ≤ 0xDA#8 then .b3_0F38_DA
  else if op ≤ 0xDB#8 then .b3_0F38_DB
  else if op ≤ 0xDF#8 then .b3_0F38_DC_DF (op.setWidth 2)
  else if op ≤ 0xEF#8 then .b3_0F38_E0_EF (op.setWidth 4)
  else if op ≤ 0xF1#8 then .b3_0F38_F0_F1 (op.setWidth 1)
  else if op ≤ 0xF3#8 then .b3_0F38_F2_F3 (op.setWidth 1)
  else if op ≤ 0xF5#8 then .b3_0F38_F4_F5 (op.setWidth 1)
  else if op ≤ 0xF6#8 then .b3_0F38_F6
  else if op ≤ 0xF7#8 then .b3_0F38_F7
  else .b3_0F38_F8_FF (op.setWidth 3)

/-- The row of the 0F 3A map that holds 0F 3A `op` (R85 (d), R122). -/
def decodeThree3A (op : Byte) : Instr :=
  if op ≤ 0x07#8 then .b3_0F3A_00_07 (op.setWidth 3)
  else if op ≤ 0x0F#8 then .b3_0F3A_08_0F (op.setWidth 3)
  else if op ≤ 0x13#8 then .b3_0F3A_10_13 (op.setWidth 2)
  else if op ≤ 0x17#8 then .b3_0F3A_14_17 (op.setWidth 2)
  else if op ≤ 0x1F#8 then .b3_0F3A_18_1F (op.setWidth 3)
  else if op ≤ 0x21#8 then .b3_0F3A_20_21 (op.setWidth 1)
  else if op ≤ 0x22#8 then .b3_0F3A_22
  else if op ≤ 0x23#8 then .b3_0F3A_23
  else if op ≤ 0x27#8 then .b3_0F3A_24_27 (op.setWidth 2)
  else if op ≤ 0x2F#8 then .b3_0F3A_28_2F (op.setWidth 3)
  else if op ≤ 0x3F#8 then .b3_0F3A_30_3F (op.setWidth 4)
  else if op ≤ 0x41#8 then .b3_0F3A_40_41 (op.setWidth 1)
  else if op ≤ 0x42#8 then .b3_0F3A_42
  else if op ≤ 0x43#8 then .b3_0F3A_43
  else if op ≤ 0x44#8 then .b3_0F3A_44
  else if op ≤ 0x45#8 then .b3_0F3A_45
  else if op ≤ 0x47#8 then .b3_0F3A_46_47 (op.setWidth 1)
  else if op ≤ 0x4F#8 then .b3_0F3A_48_4F (op.setWidth 3)
  else if op ≤ 0x5F#8 then .b3_0F3A_50_5F (op.setWidth 4)
  else if op ≤ 0x63#8 then .b3_0F3A_60_63 (op.setWidth 2)
  else if op ≤ 0x67#8 then .b3_0F3A_64_67 (op.setWidth 2)
  else if op ≤ 0x6F#8 then .b3_0F3A_68_6F (op.setWidth 3)
  else if op ≤ 0x7F#8 then .b3_0F3A_70_7F (op.setWidth 4)
  else if op ≤ 0xBF#8 then .b3_0F3A_80_BF (op.setWidth 6)
  else if op ≤ 0xC7#8 then .b3_0F3A_C0_C7 (op.setWidth 3)
  else if op ≤ 0xCB#8 then .b3_0F3A_C8_CB (op.setWidth 2)
  else if op ≤ 0xCC#8 then .b3_0F3A_CC
  else if op ≤ 0xCD#8 then .b3_0F3A_CD
  else if op ≤ 0xCF#8 then .b3_0F3A_CE_CF (op.setWidth 1)
  else if op ≤ 0xD7#8 then .b3_0F3A_D0_D7 (op.setWidth 3)
  else if op ≤ 0xDB#8 then .b3_0F3A_D8_DB (op.setWidth 2)
  else if op ≤ 0xDD#8 then .b3_0F3A_DC_DD (op.setWidth 1)
  else if op ≤ 0xDE#8 then .b3_0F3A_DE
  else if op ≤ 0xDF#8 then .b3_0F3A_DF
  else .b3_0F3A_E0_FF (op.setWidth 5)

/-- The byte-class row that an x86 text begins with: the REX row at 0x40 to 0x4F on X64 (R128), else the row of the longest
opcode map the first bytes reach (R84, R85). Every text but the empty one has a row. -/
def decodeText (arch : Arch) : List Byte → Except DecodeError Instr
  | [] => .error .empty
  | op :: rest =>
    if op = 0x0F#8 then
      match rest with
      | [] => .ok .b1_0F
      | op2 :: rest2 =>
        if op2 = 0x38#8 then
          match rest2 with
          | [] => .ok .b2_0F_38
          | op3 :: _ => .ok (decodeThree38 op3)
        else if op2 = 0x3A#8 then
          match rest2 with
          | [] => .ok .b2_0F_3A
          | op3 :: _ => .ok (decodeThree3A op3)
        else .ok (decodeTwo op2)
    else if arch = .x64 ∧ 0x40#8 ≤ op ∧ op ≤ 0x4F#8 then .ok (.rex_40_4F (op.setWidth 4))
    else .ok (decodeOne op)

/-! The encoder. -/

/-- A natural number in groups of 7 bits, with at most `fuel + 1` groups. -/
def natGroups : Nat → Nat → List Byte
  | 0, n => [BitVec.ofNat 8 n]
  | fuel + 1, n =>
    if n < 128 then [BitVec.ofNat 8 n] else BitVec.ofNat 8 (128 + n % 128) :: natGroups fuel (n / 128)

/-- A natural number of a message (`n` is more groups than `n` needs). -/
def encodeNat (n : Nat) : List Byte := natGroups n n

def encodeBit (b : Bool) : List Byte := [if b then 0x01#8 else 0x00#8]

def encodeView (v : View) : List Byte := encodeNat v.base ++ encodeNat (v.len - 1) ++ encodeBit v.mutBit

/-- The operands of a typed read. -/
def encodeRead (v : View) (off : Nat) : List Byte := encodeView v ++ encodeNat off

/-- The operands of a typed write of `w` bytes. -/
def encodeWrite (w : Nat) (v : View) (off x : Nat) : List Byte := encodeView v ++ encodeNat off ++ leBytes w x

/-- The bytes of an instruction: the message of a command, the opcode bytes of a byte-class row. -/
def encode (i : Instr) : List Byte :=
  match i with
  | .reset => [0x00#8]
  | .decodeBreakdown base len => 0x01#8 :: encodeNat base ++ encodeNat len
  | .decodeLen base len => 0x02#8 :: encodeNat base ++ encodeNat len
  | .iterStart base len va0 m => 0x03#8 :: encodeNat base ++ encodeNat len ++ leBytes 8 va0.toNat ++ encodeBit m
  | .iterNext => [0x04#8]
  | .iterSkip k => 0x05#8 :: encodeNat k
  | .viewLen v => 0x06#8 :: encodeView v
  | .viewBytes v => 0x07#8 :: encodeView v
  | .viewReadU8 v off => 0x08#8 :: encodeRead v off
  | .viewReadU16 v off => 0x09#8 :: encodeRead v off
  | .viewReadU32 v off => 0x0A#8 :: encodeRead v off
  | .viewReadU64 v off => 0x0B#8 :: encodeRead v off
  | .viewReadI8 v off => 0x0C#8 :: encodeRead v off
  | .viewReadI16 v off => 0x0D#8 :: encodeRead v off
  | .viewReadI32 v off => 0x0E#8 :: encodeRead v off
  | .viewReadI64 v off => 0x0F#8 :: encodeRead v off
  | .viewWriteU8 v off x => 0x10#8 :: encodeWrite 1 v off x.toNat
  | .viewWriteU16 v off x => 0x11#8 :: encodeWrite 2 v off x.toNat
  | .viewWriteU32 v off x => 0x12#8 :: encodeWrite 4 v off x.toNat
  | .viewWriteU64 v off x => 0x13#8 :: encodeWrite 8 v off x.toNat
  | .viewWriteI8 v off x => 0x14#8 :: encodeWrite 1 v off x.toNat
  | .viewWriteI16 v off x => 0x15#8 :: encodeWrite 2 v off x.toNat
  | .viewWriteI32 v off x => 0x16#8 :: encodeWrite 4 v off x.toNat
  | .viewWriteI64 v off x => 0x17#8 :: encodeWrite 8 v off x.toNat
  | .viewEq a b => 0x18#8 :: encodeView a ++ encodeView b
  | .viewCmp a b => 0x19#8 :: encodeView a ++ encodeView b
  | .viewHash v => 0x1A#8 :: encodeView v
  | .b1_00_03 sel => [blockByte 0x00#8 sel]
  | .b1_04 => [0x04#8]
  | .b1_05 => [0x05#8]
  | .b1_06_07 sel => [blockByte 0x06#8 sel]
  | .b1_08_0B sel => [blockByte 0x08#8 sel]
  | .b1_0C => [0x0C#8]
  | .b1_0D => [0x0D#8]
  | .b1_0E => [0x0E#8]
  | .b1_0F => [0x0F#8]
  | .b1_10_13 sel => [blockByte 0x10#8 sel]
  | .b1_14 => [0x14#8]
  | .b1_15 => [0x15#8]
  | .b1_16_17 sel => [blockByte 0x16#8 sel]
  | .b1_18_1B sel => [blockByte 0x18#8 sel]
  | .b1_1C => [0x1C#8]
  | .b1_1D => [0x1D#8]
  | .b1_1E_1F sel => [blockByte 0x1E#8 sel]
  | .b1_20_23 sel => [blockByte 0x20#8 sel]
  | .b1_24 => [0x24#8]
  | .b1_25 => [0x25#8]
  | .b1_26 => [0x26#8]
  | .b1_27 => [0x27#8]
  | .b1_28_2B sel => [blockByte 0x28#8 sel]
  | .b1_2C => [0x2C#8]
  | .b1_2D => [0x2D#8]
  | .b1_2E => [0x2E#8]
  | .b1_2F => [0x2F#8]
  | .b1_30_33 sel => [blockByte 0x30#8 sel]
  | .b1_34 => [0x34#8]
  | .b1_35 => [0x35#8]
  | .b1_36 => [0x36#8]
  | .b1_37 => [0x37#8]
  | .b1_38_3B sel => [blockByte 0x38#8 sel]
  | .b1_3C => [0x3C#8]
  | .b1_3D => [0x3D#8]
  | .b1_3E => [0x3E#8]
  | .b1_3F => [0x3F#8]
  | .b1_40_5F sel => [blockByte 0x40#8 sel]
  | .b1_60_61 sel => [blockByte 0x60#8 sel]
  | .b1_62_63 sel => [blockByte 0x62#8 sel]
  | .b1_64_67 sel => [blockByte 0x64#8 sel]
  | .b1_68 => [0x68#8]
  | .b1_69 => [0x69#8]
  | .b1_6A => [0x6A#8]
  | .b1_6B => [0x6B#8]
  | .b1_6C_6F sel => [blockByte 0x6C#8 sel]
  | .b1_70_7F sel => [blockByte 0x70#8 sel]
  | .b1_80 => [0x80#8]
  | .b1_81 => [0x81#8]
  | .b1_82_83 sel => [blockByte 0x82#8 sel]
  | .b1_84_87 sel => [blockByte 0x84#8 sel]
  | .b1_88_8F sel => [blockByte 0x88#8 sel]
  | .b1_90_97 sel => [blockByte 0x90#8 sel]
  | .b1_98_99 sel => [blockByte 0x98#8 sel]
  | .b1_9A => [0x9A#8]
  | .b1_9B => [0x9B#8]
  | .b1_9C_9F sel => [blockByte 0x9C#8 sel]
  | .b1_A0_A3 sel => [blockByte 0xA0#8 sel]
  | .b1_A4_A7 sel => [blockByte 0xA4#8 sel]
  | .b1_A8 => [0xA8#8]
  | .b1_A9 => [0xA9#8]
  | .b1_AA_AB sel => [blockByte 0xAA#8 sel]
  | .b1_AC_AF sel => [blockByte 0xAC#8 sel]
  | .b1_B0_B7 sel => [blockByte 0xB0#8 sel]
  | .b1_B8_BF sel => [blockByte 0xB8#8 sel]
  | .b1_C0_C1 sel => [blockByte 0xC0#8 sel]
  | .b1_C2 => [0xC2#8]
  | .b1_C3 => [0xC3#8]
  | .b1_C4_C5 sel => [blockByte 0xC4#8 sel]
  | .b1_C6 => [0xC6#8]
  | .b1_C7 => [0xC7#8]
  | .b1_C8 => [0xC8#8]
  | .b1_C9 => [0xC9#8]
  | .b1_CA => [0xCA#8]
  | .b1_CB => [0xCB#8]
  | .b1_CC => [0xCC#8]
  | .b1_CD => [0xCD#8]
  | .b1_CE_CF sel => [blockByte 0xCE#8 sel]
  | .b1_D0_D3 sel => [blockByte 0xD0#8 sel]
  | .b1_D4_D5 sel => [blockByte 0xD4#8 sel]
  | .b1_D6_D7 sel => [blockByte 0xD6#8 sel]
  | .b1_D8_DF sel => [blockByte 0xD8#8 sel]
  | .b1_E0_E7 sel => [blockByte 0xE0#8 sel]
  | .b1_E8_E9 sel => [blockByte 0xE8#8 sel]
  | .b1_EA => [0xEA#8]
  | .b1_EB => [0xEB#8]
  | .b1_EC_EF sel => [blockByte 0xEC#8 sel]
  | .b1_F0 => [0xF0#8]
  | .b1_F1 => [0xF1#8]
  | .b1_F2_F3 sel => [blockByte 0xF2#8 sel]
  | .b1_F4_F5 sel => [blockByte 0xF4#8 sel]
  | .b1_F6 => [0xF6#8]
  | .b1_F7 => [0xF7#8]
  | .b1_F8_FB sel => [blockByte 0xF8#8 sel]
  | .b1_FC_FD sel => [blockByte 0xFC#8 sel]
  | .b1_FE_FF sel => [blockByte 0xFE#8 sel]
  | .rex_40_4F sel => [blockByte 0x40#8 sel]
  | .b2_0F_00_03 sel => [0x0F#8, blockByte 0x00#8 sel]
  | .b2_0F_04 => [0x0F#8, 0x04#8]
  | .b2_0F_05 => [0x0F#8, 0x05#8]
  | .b2_0F_06_07 sel => [0x0F#8, blockByte 0x06#8 sel]
  | .b2_0F_08_09 sel => [0x0F#8, blockByte 0x08#8 sel]
  | .b2_0F_0A => [0x0F#8, 0x0A#8]
  | .b2_0F_0B => [0x0F#8, 0x0B#8]
  | .b2_0F_0C => [0x0F#8, 0x0C#8]
  | .b2_0F_0D => [0x0F#8, 0x0D#8]
  | .b2_0F_0E => [0x0F#8, 0x0E#8]
  | .b2_0F_0F => [0x0F#8, 0x0F#8]
  | .b2_0F_10_1F sel => [0x0F#8, blockByte 0x10#8 sel]
  | .b2_0F_20_23 sel => [0x0F#8, blockByte 0x20#8 sel]
  | .b2_0F_24_27 sel => [0x0F#8, blockByte 0x24#8 sel]
  | .b2_0F_28_2F sel => [0x0F#8, blockByte 0x28#8 sel]
  | .b2_0F_30_33 sel => [0x0F#8, blockByte 0x30#8 sel]
  | .b2_0F_34_35 sel => [0x0F#8, blockByte 0x34#8 sel]
  | .b2_0F_36 => [0x0F#8, 0x36#8]
  | .b2_0F_37 => [0x0F#8, 0x37#8]
  | .b2_0F_38 => [0x0F#8, 0x38#8]
  | .b2_0F_39 => [0x0F#8, 0x39#8]
  | .b2_0F_3A => [0x0F#8, 0x3A#8]
  | .b2_0F_3B => [0x0F#8, 0x3B#8]
  | .b2_0F_3C_3F sel => [0x0F#8, blockByte 0x3C#8 sel]
  | .b2_0F_40_5F sel => [0x0F#8, blockByte 0x40#8 sel]
  | .b2_0F_60_6F sel => [0x0F#8, blockByte 0x60#8 sel]
  | .b2_0F_70_73 sel => [0x0F#8, blockByte 0x70#8 sel]
  | .b2_0F_74_75 sel => [0x0F#8, blockByte 0x74#8 sel]
  | .b2_0F_76 => [0x0F#8, 0x76#8]
  | .b2_0F_77 => [0x0F#8, 0x77#8]
  | .b2_0F_78_79 sel => [0x0F#8, blockByte 0x78#8 sel]
  | .b2_0F_7A_7B sel => [0x0F#8, blockByte 0x7A#8 sel]
  | .b2_0F_7C_7F sel => [0x0F#8, blockByte 0x7C#8 sel]
  | .b2_0F_80_8F sel => [0x0F#8, blockByte 0x80#8 sel]
  | .b2_0F_90_9F sel => [0x0F#8, blockByte 0x90#8 sel]
  | .b2_0F_A0_A1 sel => [0x0F#8, blockByte 0xA0#8 sel]
  | .b2_0F_A2 => [0x0F#8, 0xA2#8]
  | .b2_0F_A3 => [0x0F#8, 0xA3#8]
  | .b2_0F_A4 => [0x0F#8, 0xA4#8]
  | .b2_0F_A5 => [0x0F#8, 0xA5#8]
  | .b2_0F_A6_A7 sel => [0x0F#8, blockByte 0xA6#8 sel]
  | .b2_0F_A8_A9 sel => [0x0F#8, blockByte 0xA8#8 sel]
  | .b2_0F_AA => [0x0F#8, 0xAA#8]
  | .b2_0F_AB => [0x0F#8, 0xAB#8]
  | .b2_0F_AC => [0x0F#8, 0xAC#8]
  | .b2_0F_AD => [0x0F#8, 0xAD#8]
  | .b2_0F_AE_AF sel => [0x0F#8, blockByte 0xAE#8 sel]
  | .b2_0F_B0_B7 sel => [0x0F#8, blockByte 0xB0#8 sel]
  | .b2_0F_B8_B9 sel => [0x0F#8, blockByte 0xB8#8 sel]
  | .b2_0F_BA => [0x0F#8, 0xBA#8]
  | .b2_0F_BB => [0x0F#8, 0xBB#8]
  | .b2_0F_BC_BF sel => [0x0F#8, blockByte 0xBC#8 sel]
  | .b2_0F_C0_C1 sel => [0x0F#8, blockByte 0xC0#8 sel]
  | .b2_0F_C2 => [0x0F#8, 0xC2#8]
  | .b2_0F_C3 => [0x0F#8, 0xC3#8]
  | .b2_0F_C4_C5 sel => [0x0F#8, blockByte 0xC4#8 sel]
  | .b2_0F_C6 => [0x0F#8, 0xC6#8]
  | .b2_0F_C7 => [0x0F#8, 0xC7#8]
  | .b2_0F_C8_CF sel => [0x0F#8, blockByte 0xC8#8 sel]
  | .b2_0F_D0_DF sel => [0x0F#8, blockByte 0xD0#8 sel]
  | .b2_0F_E0_EF sel => [0x0F#8, blockByte 0xE0#8 sel]
  | .b2_0F_F0_F7 sel => [0x0F#8, blockByte 0xF0#8 sel]
  | .b2_0F_F8_FB sel => [0x0F#8, blockByte 0xF8#8 sel]
  | .b2_0F_FC_FD sel => [0x0F#8, blockByte 0xFC#8 sel]
  | .b2_0F_FE => [0x0F#8, 0xFE#8]
  | .b2_0F_FF => [0x0F#8, 0xFF#8]
  | .b3_0F38_00_07 sel => [0x0F#8, 0x38#8, blockByte 0x00#8 sel]
  | .b3_0F38_08_0B sel => [0x0F#8, 0x38#8, blockByte 0x08#8 sel]
  | .b3_0F38_0C_0F sel => [0x0F#8, 0x38#8, blockByte 0x0C#8 sel]
  | .b3_0F38_10 => [0x0F#8, 0x38#8, 0x10#8]
  | .b3_0F38_11 => [0x0F#8, 0x38#8, 0x11#8]
  | .b3_0F38_12_13 sel => [0x0F#8, 0x38#8, blockByte 0x12#8 sel]
  | .b3_0F38_14_15 sel => [0x0F#8, 0x38#8, blockByte 0x14#8 sel]
  | .b3_0F38_16 => [0x0F#8, 0x38#8, 0x16#8]
  | .b3_0F38_17 => [0x0F#8, 0x38#8, 0x17#8]
  | .b3_0F38_18_1B sel => [0x0F#8, 0x38#8, blockByte 0x18#8 sel]
  | .b3_0F38_1C_1D sel => [0x0F#8, 0x38#8, blockByte 0x1C#8 sel]
  | .b3_0F38_1E => [0x0F#8, 0x38#8, 0x1E#8]
  | .b3_0F38_1F => [0x0F#8, 0x38#8, 0x1F#8]
  | .b3_0F38_20_23 sel => [0x0F#8, 0x38#8, blockByte 0x20#8 sel]
  | .b3_0F38_24_25 sel => [0x0F#8, 0x38#8, blockByte 0x24#8 sel]
  | .b3_0F38_26_27 sel => [0x0F#8, 0x38#8, blockByte 0x26#8 sel]
  | .b3_0F38_28_2B sel => [0x0F#8, 0x38#8, blockByte 0x28#8 sel]
  | .b3_0F38_2C_2F sel => [0x0F#8, 0x38#8, blockByte 0x2C#8 sel]
  | .b3_0F38_30_33 sel => [0x0F#8, 0x38#8, blockByte 0x30#8 sel]
  | .b3_0F38_34_35 sel => [0x0F#8, 0x38#8, blockByte 0x34#8 sel]
  | .b3_0F38_36 => [0x0F#8, 0x38#8, 0x36#8]
  | .b3_0F38_37 => [0x0F#8, 0x38#8, 0x37#8]
  | .b3_0F38_38_3F sel => [0x0F#8, 0x38#8, blockByte 0x38#8 sel]
  | .b3_0F38_40_41 sel => [0x0F#8, 0x38#8, blockByte 0x40#8 sel]
  | .b3_0F38_42_43 sel => [0x0F#8, 0x38#8, blockByte 0x42#8 sel]
  | .b3_0F38_44_47 sel => [0x0F#8, 0x38#8, blockByte 0x44#8 sel]
  | .b3_0F38_48_4F sel => [0x0F#8, 0x38#8, blockByte 0x48#8 sel]
  | .b3_0F38_50_5F sel => [0x0F#8, 0x38#8, blockByte 0x50#8 sel]
  | .b3_0F38_60_7F sel => [0x0F#8, 0x38#8, blockByte 0x60#8 sel]
  | .b3_0F38_80_81 sel => [0x0F#8, 0x38#8, blockByte 0x80#8 sel]
  | .b3_0F38_82 => [0x0F#8, 0x38#8, 0x82#8]
  | .b3_0F38_83 => [0x0F#8, 0x38#8, 0x83#8]
  | .b3_0F38_84_87 sel => [0x0F#8, 0x38#8, blockByte 0x84#8 sel]
  | .b3_0F38_88_8F sel => [0x0F#8, 0x38#8, blockByte 0x88#8 sel]
  | .b3_0F38_90_9F sel => [0x0F#8, 0x38#8, blockByte 0x90#8 sel]
  | .b3_0F38_A0_BF sel => [0x0F#8, 0x38#8, blockByte 0xA0#8 sel]
  | .b3_0F38_C0_C7 sel => [0x0F#8, 0x38#8, blockByte 0xC0#8 sel]
  | .b3_0F38_C8_CB sel => [0x0F#8, 0x38#8, blockByte 0xC8#8 sel]
  | .b3_0F38_CC_CD sel => [0x0F#8, 0x38#8, blockByte 0xCC#8 sel]
  | .b3_0F38_CE_CF sel => [0x0F#8, 0x38#8, blockByte 0xCE#8 sel]
  | .b3_0F38_D0_D7 sel => [0x0F#8, 0x38#8, blockByte 0xD0#8 sel]
  | .b3_0F38_D8_D9 sel => [0x0F#8, 0x38#8, blockByte 0xD8#8 sel]
  | .b3_0F38_DA => [0x0F#8, 0x38#8, 0xDA#8]
  | .b3_0F38_DB => [0x0F#8, 0x38#8, 0xDB#8]
  | .b3_0F38_DC_DF sel => [0x0F#8, 0x38#8, blockByte 0xDC#8 sel]
  | .b3_0F38_E0_EF sel => [0x0F#8, 0x38#8, blockByte 0xE0#8 sel]
  | .b3_0F38_F0_F1 sel => [0x0F#8, 0x38#8, blockByte 0xF0#8 sel]
  | .b3_0F38_F2_F3 sel => [0x0F#8, 0x38#8, blockByte 0xF2#8 sel]
  | .b3_0F38_F4_F5 sel => [0x0F#8, 0x38#8, blockByte 0xF4#8 sel]
  | .b3_0F38_F6 => [0x0F#8, 0x38#8, 0xF6#8]
  | .b3_0F38_F7 => [0x0F#8, 0x38#8, 0xF7#8]
  | .b3_0F38_F8_FF sel => [0x0F#8, 0x38#8, blockByte 0xF8#8 sel]
  | .b3_0F3A_00_07 sel => [0x0F#8, 0x3A#8, blockByte 0x00#8 sel]
  | .b3_0F3A_08_0F sel => [0x0F#8, 0x3A#8, blockByte 0x08#8 sel]
  | .b3_0F3A_10_13 sel => [0x0F#8, 0x3A#8, blockByte 0x10#8 sel]
  | .b3_0F3A_14_17 sel => [0x0F#8, 0x3A#8, blockByte 0x14#8 sel]
  | .b3_0F3A_18_1F sel => [0x0F#8, 0x3A#8, blockByte 0x18#8 sel]
  | .b3_0F3A_20_21 sel => [0x0F#8, 0x3A#8, blockByte 0x20#8 sel]
  | .b3_0F3A_22 => [0x0F#8, 0x3A#8, 0x22#8]
  | .b3_0F3A_23 => [0x0F#8, 0x3A#8, 0x23#8]
  | .b3_0F3A_24_27 sel => [0x0F#8, 0x3A#8, blockByte 0x24#8 sel]
  | .b3_0F3A_28_2F sel => [0x0F#8, 0x3A#8, blockByte 0x28#8 sel]
  | .b3_0F3A_30_3F sel => [0x0F#8, 0x3A#8, blockByte 0x30#8 sel]
  | .b3_0F3A_40_41 sel => [0x0F#8, 0x3A#8, blockByte 0x40#8 sel]
  | .b3_0F3A_42 => [0x0F#8, 0x3A#8, 0x42#8]
  | .b3_0F3A_43 => [0x0F#8, 0x3A#8, 0x43#8]
  | .b3_0F3A_44 => [0x0F#8, 0x3A#8, 0x44#8]
  | .b3_0F3A_45 => [0x0F#8, 0x3A#8, 0x45#8]
  | .b3_0F3A_46_47 sel => [0x0F#8, 0x3A#8, blockByte 0x46#8 sel]
  | .b3_0F3A_48_4F sel => [0x0F#8, 0x3A#8, blockByte 0x48#8 sel]
  | .b3_0F3A_50_5F sel => [0x0F#8, 0x3A#8, blockByte 0x50#8 sel]
  | .b3_0F3A_60_63 sel => [0x0F#8, 0x3A#8, blockByte 0x60#8 sel]
  | .b3_0F3A_64_67 sel => [0x0F#8, 0x3A#8, blockByte 0x64#8 sel]
  | .b3_0F3A_68_6F sel => [0x0F#8, 0x3A#8, blockByte 0x68#8 sel]
  | .b3_0F3A_70_7F sel => [0x0F#8, 0x3A#8, blockByte 0x70#8 sel]
  | .b3_0F3A_80_BF sel => [0x0F#8, 0x3A#8, blockByte 0x80#8 sel]
  | .b3_0F3A_C0_C7 sel => [0x0F#8, 0x3A#8, blockByte 0xC0#8 sel]
  | .b3_0F3A_C8_CB sel => [0x0F#8, 0x3A#8, blockByte 0xC8#8 sel]
  | .b3_0F3A_CC => [0x0F#8, 0x3A#8, 0xCC#8]
  | .b3_0F3A_CD => [0x0F#8, 0x3A#8, 0xCD#8]
  | .b3_0F3A_CE_CF sel => [0x0F#8, 0x3A#8, blockByte 0xCE#8 sel]
  | .b3_0F3A_D0_D7 sel => [0x0F#8, 0x3A#8, blockByte 0xD0#8 sel]
  | .b3_0F3A_D8_DB sel => [0x0F#8, 0x3A#8, blockByte 0xD8#8 sel]
  | .b3_0F3A_DC_DD sel => [0x0F#8, 0x3A#8, blockByte 0xDC#8 sel]
  | .b3_0F3A_DE => [0x0F#8, 0x3A#8, 0xDE#8]
  | .b3_0F3A_DF => [0x0F#8, 0x3A#8, 0xDF#8]
  | .b3_0F3A_E0_FF sel => [0x0F#8, 0x3A#8, blockByte 0xE0#8 sel]

/-! The opcode table's words. -/

/-- A word of the opcode table of `nbits` bits as bytes: R128 writes the opcode bytes "as one big-endian hexadecimal
numeral", so the first byte is the most significant. -/
def tableBytes (nbits w : Nat) : List Byte :=
  (List.range (nbits / 8)).reverse.map fun i => BitVec.ofNat 8 (w / 256 ^ i)

/-- Whether a table word is a command ordinal (0x00 to 0x1A). The four 64-bit accesses have a second byte in the table
(the reader's reading of their width, which is no bit of an encoding); it is passed over (assumption log 10). -/
def isCommandWord (nbits w : Nat) : Bool :=
  decide (nbits ≤ 16) && decide (w < 512) && decide (w % 256 ≤ 0x1A)

/-- The message of a command word: the ordinal and operands of zero bytes. -/
def tableMessage (w : Nat) : List Byte := BitVec.ofNat 8 w :: List.replicate 24 0x00#8

/-- The x86 text of a table word: the opcode bytes and zero bytes after them. After an escape byte alone no byte follows,
since the bytes after it would make it a word of a longer map. -/
def tableText (nbits w : Nat) : List Byte :=
  let bs := tableBytes nbits w
  if bs = [0x0F#8] ∨ bs = [0x0F#8, 0x38#8] ∨ bs = [0x0F#8, 0x3A#8] then bs else bs ++ List.replicate 16 0x00#8

/-- The instruction the decoder reads from a word of the opcode table. -/
def decodeTableWord (nbits w : Nat) : Option Instr :=
  if isCommandWord nbits w then
    match decodeCommand (tableMessage w) with
    | .ok (i, _) => some i
    | .error _ => none
  else
    match decodeText builtConfig.arch (tableText nbits w) with
    | .ok i => some i
    | .error _ => none

end Sys2Proof
end

