-- ==== Sys2Proof/Machine/State.lean ====
section
/-! DEFINITION. The state of one block instance and its host as plain data (10_state.md R20 to R44), the responses of the
command interface (60_exceptions.md R272), the reasons a run stops, and the reset state (R41, R280). -/

namespace Sys2Proof.Machine

/-- `FCAUSE` (R32, R250). -/
inductive FCause where
  | none
  | viewBounds
  | viewReadOnly
  | skipRange
  | vaOverflow
deriving DecidableEq, Repr

/-- A fault with the information reported to the host (R250). -/
inductive FaultInfo where
  /-- `ViewBounds(off, w, len)` (R253) -/
  | viewBounds (off w len : Nat)
  /-- `ViewReadOnly` (R254) -/
  | viewReadOnly
  /-- `SkipRange(k, END - CUR)` (R255) -/
  | skipRange (k remaining : Nat)
  /-- `VaOverflow` (R256) -/
  | vaOverflow
deriving DecidableEq, Repr

/-- The breakdown of a decode: byte counts (R171). -/
structure Breakdown where
  total : Nat
  opcodeBytes : Nat
  argumentBytes : Nat
  prefixBytes : Nat
deriving DecidableEq, Repr

/-- What the block answers to a command (R16, R258, R272). -/
inductive Response where
  /-- no command has been answered yet (the model's own value, assumption log 16) -/
  | idle
  /-- the command is done and has no result -/
  | done
  /-- the breakdown of `DECODE_BREAKDOWN`, four zeros for failure -/
  | breakdown (b : Breakdown)
  /-- a length: `DECODE_LEN` (0 for failure), `VIEW_LEN` -/
  | length (n : Nat)
  /-- `SOME(view, va)` of a pull -/
  | yielded (v : View) (va : VaWord)
  /-- `NONE` of a pull -/
  | nothing
  /-- the bytes of `VIEW_BYTES` -/
  | bytes (bs : List Byte)
  /-- the value of an unsigned typed read -/
  | unsigned (n : Nat)
  /-- the value of a signed typed read -/
  | signed (n : Int)
  /-- the answer of `VIEW_EQ` -/
  | equal (b : Bool)
  /-- `LT`, `EQ` or `GT` of `VIEW_CMP` -/
  | order (o : Ordering)
  /-- the answer of `VIEW_HASH` -/
  | hash (h : Nat)
  /-- `FAULT(cause, information)` (R262) -/
  | faulted (f : FaultInfo)
  /-- `REFUSED(FCAUSE)` (R264) -/
  | refused (c : FCause)
deriving DecidableEq, Repr

/-- What the host does next (R20): it issues a command, as a message, or writes one byte of its buffer between two
commands (R291). -/
inductive HostAct where
  | command (message : List Byte)
  | write (index : Nat) (byte : Byte)
deriving DecidableEq, Repr

/-- The buffer `BUF` (R50): `size` is its length `N`, `cells` lists the bytes that differ from what an unlisted index
reads as, by strictly rising index. -/
structure Memory where
  size : Nat
  cells : List Host.Cell
deriving DecidableEq, Repr

/-- Why a run stops where the spec gives no state. -/
inductive Fault where
  /-- A read or write of `len` bytes at index `base` would leave the buffer. Raised by the operations over the buffer;
  by the rules the checks before them make it impossible (R14), so only a state no run reaches raises it: safe. -/
  | outsideBuffer (base len : Nat)
deriving DecidableEq, Repr

/-- What the model gives no meaning. -/
inductive Refusal where
  /-- an instruction without a meaning; raised by no arm: safe -/
  | notModelled (mnemonic : String)
  /-- the host's message is no command of R18 (R257: not something the host can issue); raised by the step: safe -/
  | malformedCommand (e : DecodeError)
  /-- a slice operand reaches outside the buffer, which is not a value the interface has (R50); raised by
  DECODE_BREAKDOWN, DECODE_LEN and ITER_START: safe -/
  | sliceOutsideBuffer (base len : Nat)
  /-- a start address of more than VAW bits, which the operand of ITER_START cannot hold (R223): safe -/
  | addressTooWide (va0 : VaWord)
  /-- a view the block did not yield, which has no meaning (R181; U7: refuse); raised by the VIEW_ commands: safe -/
  | unknownView (v : View)
  /-- a host write outside the buffer, where there is no byte (R50); raised by the step: safe -/
  | hostWriteOutside (index : Nat)
  /-- the instance's `T` breaks a constraint of R105 or R106, which every `T` a model accepts satisfies; raised by the
  step when such an instance is given a command: safe (assumption log 17) -/
  | unacceptedInstance
deriving DecidableEq, Repr

/-- The state: the six registers of R23, the buffer (R44), the constants the instance was built with (R24, R37), and
three fields of the model's own for the host: the views it holds (R35), the last response (R36, R272), and what it does
next (R20). -/
structure State where
  /-- ARCH, T and the parameters of R8: constants of the instance (assumption log 3) -/
  cfg : Config
  /-- `CUR` (R26) -/
  cur : Nat
  /-- `END` (R25) -/
  endIdx : Nat
  /-- `VA` (R27) -/
  va : VaWord
  /-- `EXH` (R30) -/
  exh : Bool
  /-- `MUT` (R31) -/
  mutBit : Bool
  /-- `FAULT` (R32) -/
  fault : Bool
  /-- `FCAUSE` (R32) -/
  fcause : FCause
  /-- `BUF` (R50) -/
  mem : Memory
  /-- the views yielded so far, newest first (model's own, assumption log 7) -/
  views : List View
  /-- the response to the last command (model's own, assumption log 16) -/
  resp : Response
  /-- the host's pending actions, next first (model's own, assumption log 1) -/
  host : List HostAct
deriving DecidableEq, Repr

/-- The length of the buffer of the reset state. The spec leaves it to the host (R41, R44): DESIGN CHOICE, assumption
log 5. -/
def resetBufferSize : Nat := 4096

/-- The machine right after reset (R41, R280, R281): every register 0, `FCAUSE = None`. The instance and the buffer are
what the block was built with and what the host has put there (assumption logs 3 to 5). -/
def State.reset : State where
  cfg := builtConfig
  cur := 0
  endIdx := 0
  va := 0
  exh := false
  mutBit := false
  fault := false
  fcause := .none
  mem := { size := resetBufferSize, cells := [] }
  views := []
  resp := .idle
  host := []

end Sys2Proof.Machine
end

