-- ==== Sys2Proof/Machine/Engine.lean ====
section
/-! DEFINITION. The decode engine (40_decode.md R140 to R178), one algorithm with the architecture as a parameter. Its
values are local to one decode and are no state (10_state.md R38). Where a step fails the engine answers `none`, which
carries no cause (R173, R251). At the end the instances that the constraints on `T` admit (30_encoding.md R105, R106). -/

namespace Sys2Proof.Machine

/-- The values of the prefix loop (R141): bytes consumed, the operand-size and address-size defaults, REX.W. -/
structure Widths where
  count : Nat
  ddef : Nat
  adisp : Nat
  amoffs : Nat
  rexw : Bool
deriving DecidableEq, Repr

/-- R141: the values at the start of a decode. -/
def startWidths (arch : Arch) : Widths where
  count := 0
  ddef := 4
  adisp := 4
  amoffs := match arch with
    | .x86 => 4
    | .x64 => 8
  rexw := false

/-- R142 to R144, R146: a legacy prefix byte is consumed. -/
def consumeLegacy (cfg : Config) (b : Byte) (l : Widths) : Widths :=
  let l := if b = cfg.tables.opsize then { l with ddef := 2 } else l
  let l :=
    if b = cfg.tables.adsize then
      match cfg.arch with
      | .x86 => { l with adisp := 2, amoffs := 2 }
      | .x64 => { l with amoffs := 4 }
    else l
  { l with count := l.count + 1, rexw := false }

/-- R145, R147: a REX byte is consumed; `rexw` is its bit 3. -/
def consumeRex (b : Byte) (l : Widths) : Widths := { l with count := l.count + 1, rexw := b.getLsbD 3 }

/-- R142, R145, R148: the prefix loop. It answers the values after the loop, the first byte that is no prefix, and the
bytes after it; `none` when no byte remains. -/
def prefixLoop (cfg : Config) : Widths → List Byte → Option (Widths × Byte × List Byte)
  | _, [] => none
  | l, b :: rest =>
    if tableHas cfg.tables.isLegacyPrefix b then prefixLoop cfg (consumeLegacy cfg b l) rest
    else if cfg.arch == .x64 && tableHas cfg.tables.isRex b then prefixLoop cfg (consumeRex b l) rest
    else some (l, b, rest)

/-- `widen` of R147. -/
def widen (cfg : Config) (l : Widths) : Bool := l.rexw && (cfg.arch == .x64 && cfg.rexwPolicy == .widen)

/-- `W`, the default-width immediate (R158). -/
def defaultWidth (cfg : Config) (l : Widths) : Nat := if widen cfg l then 4 else l.ddef

/-- The width of the full-width class (R159). -/
def fullWidth (cfg : Config) (l : Widths) : Nat := if widen cfg l then 8 else l.ddef

/-- `w` if the class applies, else 0: the immediate widths add (R163). -/
def widthIf (applies : Bool) (w : Nat) : Nat := if applies then w else 0

/-- What the opcode dispatch finds: the number of opcode bytes, whether an addressing byte follows, the immediate width,
and the bytes after the opcode. -/
structure OpcodeInfo where
  count : Nat
  modrm : Bool
  imm : Nat
  rest : List Byte
deriving DecidableEq, Repr

/-- R162: the pair whose immediate depends on the `reg` field of the next byte, which is looked at and not consumed. -/
def pairImmediate (cfg : Config) (l : Widths) (op : Byte) (rest : List Byte) : Option Nat :=
  if tableHas cfg.tables.op1G3Imm8 op || tableHas cfg.tables.op1G3ImmDef op then
    match rest with
    | [] => none
    | m :: _ =>
      some (widthIf (cfg.g3ImmRegs.getLsbD (regField m))
        (if tableHas cfg.tables.op1G3Imm8 op then 1 else defaultWidth cfg l))
  else some 0

/-- R156 to R163: a one-byte opcode. No one-byte opcode is invalid (R112). -/
def classifyOne (cfg : Config) (l : Widths) (op : Byte) (rest : List Byte) : Option OpcodeInfo :=
  let t := cfg.tables
  match pairImmediate cfg l op rest with
  | none => none
  | some pair =>
    some
      { count := 1
        modrm := tableHas t.op1Modrm op
        imm := widthIf (tableHas t.op1Imm8 op) 1 + widthIf (tableHas t.op1ImmDef op) (defaultWidth cfg l)
          + widthIf (tableHas t.op1ImmFull op) (fullWidth cfg l) + widthIf (tableHas t.op1Imm16 op) 2
          + widthIf (tableHas t.op1Moffs op) l.amoffs + pair
        rest := rest }

/-- R153, R154: a two-byte opcode that is no escape. -/
def classifyTwo (cfg : Config) (l : Widths) (op : Byte) (rest : List Byte) : Option OpcodeInfo :=
  let t := cfg.tables
  if tableHas t.op2Invalid op then none
  else
    some
      { count := 2
        modrm := tableHas t.op2Modrm op
        imm := widthIf (tableHas t.op2ImmDef op) (defaultWidth cfg l) + widthIf (tableHas t.op2Imm8 op) 1
          + widthIf (tableHas t.op2Imm16 op) 2
        rest := rest }

/-- R152: a three-byte opcode; `invalid` is the table of its escape, `imm` the width its escape adds. -/
def classifyThree (invalid : ByteSet) (imm : Nat) (op : Byte) (rest : List Byte) : Option OpcodeInfo :=
  if tableHas invalid op then none else some { count := 3, modrm := true, imm := imm, rest := rest }

/-- R149 to R152, R155: opcode dispatch from the primary opcode byte. The escape test comes before the invalid test
(conflict C3). -/
def dispatchOpcode (cfg : Config) (l : Widths) (op : Byte) (rest : List Byte) : Option OpcodeInfo :=
  if op = 0x0F#8 then
    match rest with
    | [] => none
    | op2 :: rest2 =>
      if op2 = 0x38#8 then
        match rest2 with
        | [] => none
        | op3 :: rest3 => classifyThree cfg.tables.op38Invalid 0 op3 rest3
      else if op2 = 0x3A#8 then
        match rest2 with
        | [] => none
        | op3 :: rest3 => classifyThree cfg.tables.op3AInvalid 1 op3 rest3
      else classifyTwo cfg l op2 rest2
  else classifyOne cfg l op rest

/-- R165, R167 to R169: the displacement width of the addressing byte `m`; `noBase` says that the extension byte's low 3
bits are the no-base marker 5 (R88). -/
def displacement (l : Widths) (m : Byte) (noBase : Bool) : Nat :=
  match modeField m with
  | 0 => if lowField m = 4 then widthIf noBase 4 else widthIf (lowField m == 5) 4
  | 1 => 1
  | 2 => l.adisp
  | _ => 0

/-- R164 to R169: the addressing byte, its extension byte and the displacement. It answers the bytes consumed and the
displacement width. -/
def addressing (l : Widths) (modrm : Bool) (rest : List Byte) : Option (Nat × Nat) :=
  if modrm then
    match rest with
    | [] => none
    | m :: rest2 =>
      if modeField m ≠ 3 ∧ lowField m = 4 then
        match rest2 with
        | [] => none
        | x :: _ => some (2, displacement l m (lowField x == 5))
      else some (1, displacement l m false)
  else some (0, 0)

/-- R173: the failure value. -/
def failedBreakdown : Breakdown := { total := 0, opcodeBytes := 0, argumentBytes := 0, prefixBytes := 0 }

/-- R170: the total is checked against the slice length `n`; R171: the breakdown. -/
def totalUp (n prefixBytes opcodeBytes argumentBytes : Nat) : Option Breakdown :=
  if prefixBytes + opcodeBytes + argumentBytes ≤ n then
    some
      { total := prefixBytes + opcodeBytes + argumentBytes
        opcodeBytes := opcodeBytes
        argumentBytes := argumentBytes
        prefixBytes := prefixBytes }
  else none

/-- R178: the steps of a decode of the slice `s`. -/
def decodeSteps (cfg : Config) (s : List Byte) : Option Breakdown :=
  match prefixLoop cfg (startWidths cfg.arch) s with
  | none => none
  | some (l, op, rest) =>
    match dispatchOpcode cfg l op rest with
    | none => none
    | some info =>
      match addressing l info.modrm info.rest with
      | none => none
      | some (consumed, disp) => totalUp s.length l.count info.count (consumed + disp + info.imm)

/-- `decode` (R140, R178): the breakdown of the first instruction of the slice, or the failure value (R173). -/
def measure (cfg : Config) (s : List Byte) : Breakdown := (decodeSteps cfg s).getD failedBreakdown

/-- R105, the whole rule: the entries the source's scenarios fix, and on X64 the slice 00 80 fails to decode. -/
def tablesScenario (cfg : Config) : Bool :=
  tablesEntries cfg.arch cfg.tables
    && (cfg.arch == .x86 || measure cfg [0x00#8, 0x80#8] == failedBreakdown)

/-- The instances a model accepts: `T` satisfies R106 and R105 (R7). -/
def instanceAccepted (cfg : Config) : Bool := tablesStructural cfg.tables && tablesScenario cfg

end Sys2Proof.Machine
end

