-- ==== Sys2Proof/Machine/Flags.lean ====
section
/-! DEFINITION. The block's one-bit state (10_state.md R34): EXH (R30), MUT (R31), FAULT with FCAUSE (R32). There are no
arithmetic flags. One operation for each way a flag is written. -/

namespace Sys2Proof.Machine

/-- The number of a cause (R250). -/
def causeNumber : FCause → Nat
  | .none => 0
  | .viewBounds => 1
  | .viewReadOnly => 2
  | .skipRange => 3
  | .vaOverflow => 4

/-- The cause that a fault latches (R250). -/
def faultCause : FaultInfo → FCause
  | .viewBounds _ _ _ => .viewBounds
  | .viewReadOnly => .viewReadOnly
  | .skipRange _ _ => .skipRange
  | .vaOverflow => .vaOverflow

/-- `EXH <- 1` (R226). -/
def setExhausted (s : State) : State := { s with exh := true }

/-- `EXH <- 0` (R223, R280). -/
def clearExhausted (s : State) : State := { s with exh := false }

/-- `MUT <- m` (R223, R280). -/
def loadMut (m : Bool) (s : State) : State := { s with mutBit := m }

/-- `FAULT <- 1`, `FCAUSE <- cause` (R262 (c)). -/
def setFaultLatch (c : FCause) (s : State) : State := { s with fault := true, fcause := c }

/-- `FAULT <- 0`, `FCAUSE <- None` (R280). -/
def clearFaultLatch (s : State) : State := { s with fault := false, fcause := .none }

end Sys2Proof.Machine
end

