-- ==== Sys2Proof/Machine/Ops.lean ====
section
/-! DEFINITION. The named operations: the buffer (20_memory.md R50; 00_scope.md R14), answers, taking a fault
(60_exceptions.md R262), refusal (R264), and the way out of the faulted state (R265, R280). -/

namespace Sys2Proof.Machine

open Host

/-! The buffer. -/

/-- What a byte of the buffer that nothing has written reads as. The spec leaves it to the host (R44, R281): DESIGN CHOICE,
assumption log 5. -/
def unlistedByte : Byte := 0x00#8

/-- The byte listed for an index, or what an unlisted one reads as. -/
def cellAt : List Cell → Nat → Byte
  | [], _ => unlistedByte
  | (k, b) :: rest, a => if a = k then b else cellAt rest a

/-- The list with an entry `(a, b)` at its place, instead of the one for `a`. -/
def cellInsert : List Cell → Nat → Byte → List Cell
  | [], a, b => [(a, b)]
  | (k, c) :: rest, a, b =>
    if a < k then (a, b) :: (k, c) :: rest
    else if a = k then (a, b) :: rest
    else (k, c) :: cellInsert rest a b

/-- The list with the byte at `a` set to `b`: the value that an unlisted index reads as removes the entry. -/
def cellSet (cs : List Cell) (a : Nat) (b : Byte) : List Cell :=
  if b = unlistedByte then cs.filter fun c => c.1 != a else cellInsert cs a b

/-- The canonical form from index `lo` on, below `size`: indices strictly rising, no entry that reads as unlisted. -/
def cellsWf (lo size : Nat) : List Cell → Bool
  | [] => true
  | (k, b) :: rest => decide (lo ≤ k) && decide (k < size) && b != unlistedByte && cellsWf (k + 1) size rest

/-- The buffer's list is in canonical form and lies inside the buffer. -/
def Memory.wf (m : Memory) : Bool := cellsWf 0 m.size m.cells

/-- `BUF[a]`. -/
def Memory.byteAt (m : Memory) (a : Nat) : Byte := cellAt m.cells a

/-- `BUF[a] <- b`. -/
def Memory.setByte (m : Memory) (a : Nat) (b : Byte) : Memory := { m with cells := cellSet m.cells a b }

/-- Whether `n` bytes at `addr` lie inside the buffer (R14, R50). -/
def Memory.holds (m : Memory) (addr n : Nat) : Bool := decide (addr + n ≤ m.size)

/-- `BUF[base..base+len)` as a byte sequence, in increasing index order (R11). -/
def Memory.slice (m : Memory) (base len : Nat) : List Byte :=
  (List.range len).map fun k => m.byteAt (base + k)

/-- `BUF[addr+k] <- bs[k]` for every `k`. -/
def Memory.setBytes (m : Memory) (addr : Nat) : List Byte → Memory
  | [] => m
  | b :: rest => (m.setByte addr b).setBytes (addr + 1) rest

/-- `MemRead(addr, n)` (R14). -/
def Memory.read (m : Memory) (addr n : Nat) : Nat := leValue (m.slice addr n)

/-- `MemWrite(addr, n, v)` (R14). -/
def Memory.write (m : Memory) (addr n v : Nat) : Memory := m.setBytes addr (leBytes n v)

/-! Answers, faults and refusal. -/

/-- The command ends with an answer and leaves the rest of the state as `s` has it. -/
def answer (r : Response) (s : State) : Outcome State Fault Refusal := .next { s with resp := r }

/-- TAKING A FAULT (R262): nothing but the latch changes, and the host gets `FAULT(cause, information)`. No program counter
or status is saved and control goes nowhere. -/
def takeFault (f : FaultInfo) (s : State) : Outcome State Fault Refusal :=
  answer (.faulted f) (setFaultLatch (faultCause f) s)

/-- Refusal (R264): while FAULT = 1 a command answers `REFUSED(FCAUSE)` and changes nothing. -/
def unlessLatched (s : State) (run : Outcome State Fault Refusal) : Outcome State Fault Refusal :=
  if s.fault then answer (.refused s.fcause) s else run

/-- THE WAY OUT OF A FAULT (R265, R280): the registers after `RESET`. The instance, the buffer and what the host holds stay
(R41, R280). -/
def resetRegisters (s : State) : State :=
  clearFaultLatch (loadMut false (clearExhausted { s with cur := 0, endIdx := 0, va := 0 }))

end Sys2Proof.Machine
end

