-- ==== Sys2Proof/Machine/Operands.lean ====
section
/-! DEFINITION. The operand forms: a slice of the buffer (20_memory.md R50), the remaining bytes (10_state.md R28), a view
(41_view.md R180 to R182) and an offset into it with the bounds check (R183), a start address (42_iterator.md R223). -/

namespace Sys2Proof.Machine

open Host

/-- A slice operand: `base + len <= N`. Any other pair is not a value the interface has (R50). -/
def withSlice (base len : Nat) (s : State) (run : List Byte → Outcome State Fault Refusal) :
    Outcome State Fault Refusal :=
  if s.mem.holds base len then run (s.mem.slice base len) else .refused (.sliceOutsideBuffer base len)

/-- The remaining bytes `BUF[CUR..END)` (R28). -/
def withRemaining (s : State) (run : List Byte → Outcome State Fault Refusal) : Outcome State Fault Refusal :=
  if s.mem.holds s.cur (s.endIdx - s.cur) then run (s.mem.slice s.cur (s.endIdx - s.cur))
  else .fault (.outsideBuffer s.cur (s.endIdx - s.cur))

/-- A view operand: one that the block has yielded (R181). -/
def withView (v : View) (s : State) (run : Outcome State Fault Refusal) : Outcome State Fault Refusal :=
  if v ∈ s.views then run else .refused (.unknownView v)

/-- A view operand and its bytes as they are now (R68, R185). -/
def withViewBytes (v : View) (s : State) (run : List Byte → Outcome State Fault Refusal) :
    Outcome State Fault Refusal :=
  withView v s
    (if s.mem.holds v.base v.len then run (s.mem.slice v.base v.len) else .fault (.outsideBuffer v.base v.len))

/-- The bounds check of a typed access of `w` bytes (R183): the sum is taken in the natural numbers. Then the access at
buffer index `base + off` (R52). -/
def withAccess (v : View) (off w : Nat) (s : State) (run : Nat → Outcome State Fault Refusal) :
    Outcome State Fault Refusal :=
  if v.len < off + w then takeFault (.viewBounds off w v.len) s
  else if s.mem.holds (v.base + off) w then run (v.base + off)
  else .fault (.outsideBuffer (v.base + off) w)

/-- A start address: `VAW` bits are all the operand can hold (R223). -/
def withAddress (va0 : VaWord) (s : State) (run : Outcome State Fault Refusal) : Outcome State Fault Refusal :=
  if va0.toNat < 2 ^ s.cfg.arch.vaw then run else .refused (.addressTooWide va0)

end Sys2Proof.Machine
end

