-- ==== Sys2Proof/Machine/DecodeCommands.lean ====
section
/-! DEFINITION. RESET (70_reset_and_hazards.md R280) and the two stateless decode commands (40_decode.md R140, R174). -/

namespace Sys2Proof.Machine

open Host

/-- R280: never refused (R264); every register is cleared. -/
def execReset (s : State) : Outcome State Fault Refusal := answer .done (resetRegisters s)

/-- R140: no register and no buffer byte changes; no input faults (R252). -/
def execDecodeBreakdown (base len : Nat) (s : State) : Outcome State Fault Refusal :=
  unlessLatched s (withSlice base len s fun text => answer (.breakdown (measure s.cfg text)) s)

/-- R174: the total of the breakdown. -/
def execDecodeLen (base len : Nat) (s : State) : Outcome State Fault Refusal :=
  unlessLatched s (withSlice base len s fun text => answer (.length (measure s.cfg text).total) s)

end Sys2Proof.Machine
end

