-- ==== Sys2Proof/Machine/Pull.lean ====
section
/-! DEFINITION. The pull of the iterator (42_iterator.md R225 to R228, R231), shared by ITER_NEXT and by the byte-class
rows. -/

namespace Sys2Proof.Machine

open Host

/-- R231: whether `VA + k > 2^VAW - 1`, the sum in the natural numbers. -/
def vaOverflows (k : Nat) (s : State) : Bool := decide (2 ^ s.cfg.arch.vaw - 1 < s.va.toNat + k)

/-- R228: `consume(k)`: CUR and VA advance by the same amount. -/
def consume (k : Nat) (s : State) : State := { s with cur := s.cur + k, va := s.va + BitVec.ofNat 64 k }

/-- R227: the view a pull of `len` bytes yields. -/
def nextView (len : Nat) (s : State) : View := { base := s.cur, len := len, mutBit := s.mutBit }

/-- R227, R228: the pull yields `SOME(view, va)`, both taken before the advance; the host now holds the view. -/
def yieldView (len : Nat) (s : State) : State :=
  { consume len s with views := nextView len s :: s.views, resp := .yielded (nextView len s) s.va }

/-- R226: a failed pull: `EXH <- 1`, `NONE`. -/
def failPull (s : State) : State := { setExhausted s with resp := .nothing }

/-- R225 after its first line, on the text the engine is given. -/
def pullText (text : List Byte) (s : State) : Outcome State Fault Refusal :=
  let len := (measure s.cfg text).total
  if len = 0 then .next (failPull s)
  else if vaOverflows len s then takeFault .vaOverflow s
  else .next (yieldView len s)

/-- R225, first line, after the refusal of R264: with the latch and EXH = 1 the answer is `NONE` (R226). -/
def unlessExhausted (s : State) (run : Outcome State Fault Refusal) : Outcome State Fault Refusal :=
  unlessLatched s (if s.cfg.exhLatch && s.exh then answer .nothing s else run)

/-- The remaining bytes with `lead` for their first bytes; no longer than the slice (20_memory.md R58). -/
def textFrom (lead remaining : List Byte) : List Byte :=
  (lead ++ remaining.drop lead.length).take remaining.length

/-- The pull of an x86 instruction whose first bytes are `lead`: R225 on the remaining bytes that begin so
(assumption log 9). -/
def sweep (lead : List Byte) (s : State) : Outcome State Fault Refusal :=
  unlessExhausted s (withRemaining s fun remaining => pullText (textFrom lead remaining) s)

end Sys2Proof.Machine
end

