-- ==== Sys2Proof/Machine/Iterator.lean ====
section
/-! DEFINITION. The iterator commands (42_iterator.md): ITER_START (R223), ITER_NEXT (R225), ITER_SKIP (R229). -/

namespace Sys2Proof.Machine

open Host

/-- R223: the registers after a binding. -/
def bindIterator (base len : Nat) (va0 : VaWord) (m : Bool) (s : State) : State :=
  loadMut m (clearExhausted { s with cur := base, endIdx := base + len, va := va0 })

/-- R223: the iterator is bound; FAULT is not touched and no memory is read or written. -/
def execIterStart (base len : Nat) (va0 : VaWord) (mutBit : Bool) (s : State) : Outcome State Fault Refusal :=
  unlessLatched s
    (withSlice base len s fun _ => withAddress va0 s (answer .done (bindIterator base len va0 mutBit s)))

/-- R225: one pull. -/
def execIterNext (s : State) : Outcome State Fault Refusal :=
  unlessExhausted s (withRemaining s fun remaining => pullText remaining s)

/-- R229 to R231: skip `k` bytes; `SkipRange` is tested before `VaOverflow` (R260), and EXH is neither read nor written. -/
def execIterSkip (k : Nat) (s : State) : Outcome State Fault Refusal :=
  unlessLatched s
    (if s.endIdx - s.cur < k then takeFault (.skipRange k (s.endIdx - s.cur)) s
     else if vaOverflows k s then takeFault .vaOverflow s
     else answer .done (consume k s))

end Sys2Proof.Machine
end

