-- ==== Sys2Proof/Machine/MapOne.lean ====
section
/-! DEFINITION. The meanings of the byte-class rows of the one-byte map and the REX class (30_encoding.md R82 to R85; 40_decode.md R142, R145, R149, R150, R156): what the block
does with an instruction whose bytes begin with the row's opcode bytes, which is the pull of 42_iterator.md R225 with those
bytes at CUR (assumption log 9). -/

namespace Sys2Proof.Machine

open Host

/-- 00 to 03: one-byte opcode (R156). -/
def execB1_00_03 (sel : BitVec 2) (s : State) : Outcome State Fault Refusal :=
  sweep [blockByte 0x00#8 sel] s

/-- 04: one-byte opcode (R156). -/
def execB1_04 (s : State) : Outcome State Fault Refusal :=
  sweep [0x04#8] s

/-- 05: one-byte opcode (R156). -/
def execB1_05 (s : State) : Outcome State Fault Refusal :=
  sweep [0x05#8] s

/-- 06 to 07: one-byte opcode (R156). -/
def execB1_06_07 (sel : BitVec 1) (s : State) : Outcome State Fault Refusal :=
  sweep [blockByte 0x06#8 sel] s

/-- 08 to 0B: one-byte opcode (R156). -/
def execB1_08_0B (sel : BitVec 2) (s : State) : Outcome State Fault Refusal :=
  sweep [blockByte 0x08#8 sel] s

/-- 0C: one-byte opcode (R156). -/
def execB1_0C (s : State) : Outcome State Fault Refusal :=
  sweep [0x0C#8] s

/-- 0D: one-byte opcode (R156). -/
def execB1_0D (s : State) : Outcome State Fault Refusal :=
  sweep [0x0D#8] s

/-- 0E: one-byte opcode (R156). -/
def execB1_0E (s : State) : Outcome State Fault Refusal :=
  sweep [0x0E#8] s

/-- 0F: escape (R150). -/
def execB1_0F (s : State) : Outcome State Fault Refusal :=
  sweep [0x0F#8] s

/-- 10 to 13: one-byte opcode (R156). -/
def execB1_10_13 (sel : BitVec 2) (s : State) : Outcome State Fault Refusal :=
  sweep [blockByte 0x10#8 sel] s

/-- 14: one-byte opcode (R156). -/
def execB1_14 (s : State) : Outcome State Fault Refusal :=
  sweep [0x14#8] s

/-- 15: one-byte opcode (R156). -/
def execB1_15 (s : State) : Outcome State Fault Refusal :=
  sweep [0x15#8] s

/-- 16 to 17: one-byte opcode (R156). -/
def execB1_16_17 (sel : BitVec 1) (s : State) : Outcome State Fault Refusal :=
  sweep [blockByte 0x16#8 sel] s

/-- 18 to 1B: one-byte opcode (R156). -/
def execB1_18_1B (sel : BitVec 2) (s : State) : Outcome State Fault Refusal :=
  sweep [blockByte 0x18#8 sel] s

/-- 1C: one-byte opcode (R156). -/
def execB1_1C (s : State) : Outcome State Fault Refusal :=
  sweep [0x1C#8] s

/-- 1D: one-byte opcode (R156). -/
def execB1_1D (s : State) : Outcome State Fault Refusal :=
  sweep [0x1D#8] s

/-- 1E to 1F: one-byte opcode (R156). -/
def execB1_1E_1F (sel : BitVec 1) (s : State) : Outcome State Fault Refusal :=
  sweep [blockByte 0x1E#8 sel] s

/-- 20 to 23: one-byte opcode (R156). -/
def execB1_20_23 (sel : BitVec 2) (s : State) : Outcome State Fault Refusal :=
  sweep [blockByte 0x20#8 sel] s

/-- 24: one-byte opcode (R156). -/
def execB1_24 (s : State) : Outcome State Fault Refusal :=
  sweep [0x24#8] s

/-- 25: one-byte opcode (R156). -/
def execB1_25 (s : State) : Outcome State Fault Refusal :=
  sweep [0x25#8] s

/-- 26: legacy prefix (R142). -/
def execB1_26 (s : State) : Outcome State Fault Refusal :=
  sweep [0x26#8] s

/-- 27: one-byte opcode (R156). -/
def execB1_27 (s : State) : Outcome State Fault Refusal :=
  sweep [0x27#8] s

/-- 28 to 2B: one-byte opcode (R156). -/
def execB1_28_2B (sel : BitVec 2) (s : State) : Outcome State Fault Refusal :=
  sweep [blockByte 0x28#8 sel] s

/-- 2C: one-byte opcode (R156). -/
def execB1_2C (s : State) : Outcome State Fault Refusal :=
  sweep [0x2C#8] s

/-- 2D: one-byte opcode (R156). -/
def execB1_2D (s : State) : Outcome State Fault Refusal :=
  sweep [0x2D#8] s

/-- 2E: legacy prefix (R142). -/
def execB1_2E (s : State) : Outcome State Fault Refusal :=
  sweep [0x2E#8] s

/-- 2F: one-byte opcode (R156). -/
def execB1_2F (s : State) : Outcome State Fault Refusal :=
  sweep [0x2F#8] s

/-- 30 to 33: one-byte opcode (R156). -/
def execB1_30_33 (sel : BitVec 2) (s : State) : Outcome State Fault Refusal :=
  sweep [blockByte 0x30#8 sel] s

/-- 34: one-byte opcode (R156). -/
def execB1_34 (s : State) : Outcome State Fault Refusal :=
  sweep [0x34#8] s

/-- 35: one-byte opcode (R156). -/
def execB1_35 (s : State) : Outcome State Fault Refusal :=
  sweep [0x35#8] s

/-- 36: legacy prefix (R142). -/
def execB1_36 (s : State) : Outcome State Fault Refusal :=
  sweep [0x36#8] s

/-- 37: one-byte opcode (R156). -/
def execB1_37 (s : State) : Outcome State Fault Refusal :=
  sweep [0x37#8] s

/-- 38 to 3B: one-byte opcode (R156). -/
def execB1_38_3B (sel : BitVec 2) (s : State) : Outcome State Fault Refusal :=
  sweep [blockByte 0x38#8 sel] s

/-- 3C: one-byte opcode (R156). -/
def execB1_3C (s : State) : Outcome State Fault Refusal :=
  sweep [0x3C#8] s

/-- 3D: one-byte opcode (R156). -/
def execB1_3D (s : State) : Outcome State Fault Refusal :=
  sweep [0x3D#8] s

/-- 3E: legacy prefix (R142). -/
def execB1_3E (s : State) : Outcome State Fault Refusal :=
  sweep [0x3E#8] s

/-- 3F: one-byte opcode (R156). -/
def execB1_3F (s : State) : Outcome State Fault Refusal :=
  sweep [0x3F#8] s

/-- 40 to 5F: one-byte opcode (R156). -/
def execB1_40_5F (sel : BitVec 5) (s : State) : Outcome State Fault Refusal :=
  sweep [blockByte 0x40#8 sel] s

/-- 60 to 61: one-byte opcode (R156). -/
def execB1_60_61 (sel : BitVec 1) (s : State) : Outcome State Fault Refusal :=
  sweep [blockByte 0x60#8 sel] s

/-- 62 to 63: one-byte opcode (R156). -/
def execB1_62_63 (sel : BitVec 1) (s : State) : Outcome State Fault Refusal :=
  sweep [blockByte 0x62#8 sel] s

/-- 64 to 67: legacy prefix (R142). -/
def execB1_64_67 (sel : BitVec 2) (s : State) : Outcome State Fault Refusal :=
  sweep [blockByte 0x64#8 sel] s

/-- 68: one-byte opcode (R156). -/
def execB1_68 (s : State) : Outcome State Fault Refusal :=
  sweep [0x68#8] s

/-- 69: one-byte opcode (R156). -/
def execB1_69 (s : State) : Outcome State Fault Refusal :=
  sweep [0x69#8] s

/-- 6A: one-byte opcode (R156). -/
def execB1_6A (s : State) : Outcome State Fault Refusal :=
  sweep [0x6A#8] s

/-- 6B: one-byte opcode (R156). -/
def execB1_6B (s : State) : Outcome State Fault Refusal :=
  sweep [0x6B#8] s

/-- 6C to 6F: one-byte opcode (R156). -/
def execB1_6C_6F (sel : BitVec 2) (s : State) : Outcome State Fault Refusal :=
  sweep [blockByte 0x6C#8 sel] s

/-- 70 to 7F: one-byte opcode (R156). -/
def execB1_70_7F (sel : BitVec 4) (s : State) : Outcome State Fault Refusal :=
  sweep [blockByte 0x70#8 sel] s

/-- 80: one-byte opcode (R156). -/
def execB1_80 (s : State) : Outcome State Fault Refusal :=
  sweep [0x80#8] s

/-- 81: one-byte opcode (R156). -/
def execB1_81 (s : State) : Outcome State Fault Refusal :=
  sweep [0x81#8] s

/-- 82 to 83: one-byte opcode (R156). -/
def execB1_82_83 (sel : BitVec 1) (s : State) : Outcome State Fault Refusal :=
  sweep [blockByte 0x82#8 sel] s

/-- 84 to 87: one-byte opcode (R156). -/
def execB1_84_87 (sel : BitVec 2) (s : State) : Outcome State Fault Refusal :=
  sweep [blockByte 0x84#8 sel] s

/-- 88 to 8F: one-byte opcode (R156). -/
def execB1_88_8F (sel : BitVec 3) (s : State) : Outcome State Fault Refusal :=
  sweep [blockByte 0x88#8 sel] s

/-- 90 to 97: one-byte opcode (R156). -/
def execB1_90_97 (sel : BitVec 3) (s : State) : Outcome State Fault Refusal :=
  sweep [blockByte 0x90#8 sel] s

/-- 98 to 99: one-byte opcode (R156). -/
def execB1_98_99 (sel : BitVec 1) (s : State) : Outcome State Fault Refusal :=
  sweep [blockByte 0x98#8 sel] s

/-- 9A: one-byte opcode (R156). -/
def execB1_9A (s : State) : Outcome State Fault Refusal :=
  sweep [0x9A#8] s

/-- 9B: one-byte opcode (R156). -/
def execB1_9B (s : State) : Outcome State Fault Refusal :=
  sweep [0x9B#8] s

/-- 9C to 9F: one-byte opcode (R156). -/
def execB1_9C_9F (sel : BitVec 2) (s : State) : Outcome State Fault Refusal :=
  sweep [blockByte 0x9C#8 sel] s

/-- A0 to A3: one-byte opcode (R156). -/
def execB1_A0_A3 (sel : BitVec 2) (s : State) : Outcome State Fault Refusal :=
  sweep [blockByte 0xA0#8 sel] s

/-- A4 to A7: one-byte opcode (R156). -/
def execB1_A4_A7 (sel : BitVec 2) (s : State) : Outcome State Fault Refusal :=
  sweep [blockByte 0xA4#8 sel] s

/-- A8: one-byte opcode (R156). -/
def execB1_A8 (s : State) : Outcome State Fault Refusal :=
  sweep [0xA8#8] s

/-- A9: one-byte opcode (R156). -/
def execB1_A9 (s : State) : Outcome State Fault Refusal :=
  sweep [0xA9#8] s

/-- AA to AB: one-byte opcode (R156). -/
def execB1_AA_AB (sel : BitVec 1) (s : State) : Outcome State Fault Refusal :=
  sweep [blockByte 0xAA#8 sel] s

/-- AC to AF: one-byte opcode (R156). -/
def execB1_AC_AF (sel : BitVec 2) (s : State) : Outcome State Fault Refusal :=
  sweep [blockByte 0xAC#8 sel] s

/-- B0 to B7: one-byte opcode (R156). -/
def execB1_B0_B7 (sel : BitVec 3) (s : State) : Outcome State Fault Refusal :=
  sweep [blockByte 0xB0#8 sel] s

/-- B8 to BF: one-byte opcode (R156). -/
def execB1_B8_BF (sel : BitVec 3) (s : State) : Outcome State Fault Refusal :=
  sweep [blockByte 0xB8#8 sel] s

/-- C0 to C1: one-byte opcode (R156). -/
def execB1_C0_C1 (sel : BitVec 1) (s : State) : Outcome State Fault Refusal :=
  sweep [blockByte 0xC0#8 sel] s

/-- C2: one-byte opcode (R156). -/
def execB1_C2 (s : State) : Outcome State Fault Refusal :=
  sweep [0xC2#8] s

/-- C3: one-byte opcode (R156). -/
def execB1_C3 (s : State) : Outcome State Fault Refusal :=
  sweep [0xC3#8] s

/-- C4 to C5: one-byte opcode (R156). -/
def execB1_C4_C5 (sel : BitVec 1) (s : State) : Outcome State Fault Refusal :=
  sweep [blockByte 0xC4#8 sel] s

/-- C6: one-byte opcode (R156). -/
def execB1_C6 (s : State) : Outcome State Fault Refusal :=
  sweep [0xC6#8] s

/-- C7: one-byte opcode (R156). -/
def execB1_C7 (s : State) : Outcome State Fault Refusal :=
  sweep [0xC7#8] s

/-- C8: one-byte opcode (R156). -/
def execB1_C8 (s : State) : Outcome State Fault Refusal :=
  sweep [0xC8#8] s

/-- C9: one-byte opcode (R156). -/
def execB1_C9 (s : State) : Outcome State Fault Refusal :=
  sweep [0xC9#8] s

/-- CA: one-byte opcode (R156). -/
def execB1_CA (s : State) : Outcome State Fault Refusal :=
  sweep [0xCA#8] s

/-- CB: one-byte opcode (R156). -/
def execB1_CB (s : State) : Outcome State Fault Refusal :=
  sweep [0xCB#8] s

/-- CC: one-byte opcode (R156). -/
def execB1_CC (s : State) : Outcome State Fault Refusal :=
  sweep [0xCC#8] s

/-- CD: one-byte opcode (R156). -/
def execB1_CD (s : State) : Outcome State Fault Refusal :=
  sweep [0xCD#8] s

/-- CE to CF: one-byte opcode (R156). -/
def execB1_CE_CF (sel : BitVec 1) (s : State) : Outcome State Fault Refusal :=
  sweep [blockByte 0xCE#8 sel] s

/-- D0 to D3: one-byte opcode (R156). -/
def execB1_D0_D3 (sel : BitVec 2) (s : State) : Outcome State Fault Refusal :=
  sweep [blockByte 0xD0#8 sel] s

/-- D4 to D5: one-byte opcode (R156). -/
def execB1_D4_D5 (sel : BitVec 1) (s : State) : Outcome State Fault Refusal :=
  sweep [blockByte 0xD4#8 sel] s

/-- D6 to D7: one-byte opcode (R156). -/
def execB1_D6_D7 (sel : BitVec 1) (s : State) : Outcome State Fault Refusal :=
  sweep [blockByte 0xD6#8 sel] s

/-- D8 to DF: one-byte opcode (R156). -/
def execB1_D8_DF (sel : BitVec 3) (s : State) : Outcome State Fault Refusal :=
  sweep [blockByte 0xD8#8 sel] s

/-- E0 to E7: one-byte opcode (R156). -/
def execB1_E0_E7 (sel : BitVec 3) (s : State) : Outcome State Fault Refusal :=
  sweep [blockByte 0xE0#8 sel] s

/-- E8 to E9: one-byte opcode (R156). -/
def execB1_E8_E9 (sel : BitVec 1) (s : State) : Outcome State Fault Refusal :=
  sweep [blockByte 0xE8#8 sel] s

/-- EA: one-byte opcode (R156). -/
def execB1_EA (s : State) : Outcome State Fault Refusal :=
  sweep [0xEA#8] s

/-- EB: one-byte opcode (R156). -/
def execB1_EB (s : State) : Outcome State Fault Refusal :=
  sweep [0xEB#8] s

/-- EC to EF: one-byte opcode (R156). -/
def execB1_EC_EF (sel : BitVec 2) (s : State) : Outcome State Fault Refusal :=
  sweep [blockByte 0xEC#8 sel] s

/-- F0: legacy prefix (R142). -/
def execB1_F0 (s : State) : Outcome State Fault Refusal :=
  sweep [0xF0#8] s

/-- F1: one-byte opcode (R156). -/
def execB1_F1 (s : State) : Outcome State Fault Refusal :=
  sweep [0xF1#8] s

/-- F2 to F3: legacy prefix (R142). -/
def execB1_F2_F3 (sel : BitVec 1) (s : State) : Outcome State Fault Refusal :=
  sweep [blockByte 0xF2#8 sel] s

/-- F4 to F5: one-byte opcode (R156). -/
def execB1_F4_F5 (sel : BitVec 1) (s : State) : Outcome State Fault Refusal :=
  sweep [blockByte 0xF4#8 sel] s

/-- F6: one-byte opcode (R156). -/
def execB1_F6 (s : State) : Outcome State Fault Refusal :=
  sweep [0xF6#8] s

/-- F7: one-byte opcode (R156). -/
def execB1_F7 (s : State) : Outcome State Fault Refusal :=
  sweep [0xF7#8] s

/-- F8 to FB: one-byte opcode (R156). -/
def execB1_F8_FB (sel : BitVec 2) (s : State) : Outcome State Fault Refusal :=
  sweep [blockByte 0xF8#8 sel] s

/-- FC to FD: one-byte opcode (R156). -/
def execB1_FC_FD (sel : BitVec 1) (s : State) : Outcome State Fault Refusal :=
  sweep [blockByte 0xFC#8 sel] s

/-- FE to FF: one-byte opcode (R156). -/
def execB1_FE_FF (sel : BitVec 1) (s : State) : Outcome State Fault Refusal :=
  sweep [blockByte 0xFE#8 sel] s

/-- 40 to 4F: REX prefix of X64 (R145). -/
def execRex_40_4F (sel : BitVec 4) (s : State) : Outcome State Fault Refusal :=
  sweep [blockByte 0x40#8 sel] s

end Sys2Proof.Machine
end

