-- ==== Sys2Proof/Machine/MapThree38.lean ====
section
/-! DEFINITION. The meanings of the byte-class rows of the three-byte map 0F 38 (30_encoding.md R85, R111; 40_decode.md R152, R153): what the block
does with an instruction whose bytes begin with the row's opcode bytes, which is the pull of 42_iterator.md R225 with those
bytes at CUR (assumption log 9). -/

namespace Sys2Proof.Machine

open Host

/-- 0F 38 00 to 07: three-byte opcode (R152). -/
def execB3_0F38_00_07 (sel : BitVec 3) (s : State) : Outcome State Fault Refusal :=
  sweep [0x0F#8, 0x38#8, blockByte 0x00#8 sel] s

/-- 0F 38 08 to 0B: three-byte opcode (R152). -/
def execB3_0F38_08_0B (sel : BitVec 2) (s : State) : Outcome State Fault Refusal :=
  sweep [0x0F#8, 0x38#8, blockByte 0x08#8 sel] s

/-- 0F 38 0C to 0F: invalid opcode (R153). -/
def execB3_0F38_0C_0F (sel : BitVec 2) (s : State) : Outcome State Fault Refusal :=
  sweep [0x0F#8, 0x38#8, blockByte 0x0C#8 sel] s

/-- 0F 38 10: three-byte opcode (R152). -/
def execB3_0F38_10 (s : State) : Outcome State Fault Refusal :=
  sweep [0x0F#8, 0x38#8, 0x10#8] s

/-- 0F 38 11: invalid opcode (R153). -/
def execB3_0F38_11 (s : State) : Outcome State Fault Refusal :=
  sweep [0x0F#8, 0x38#8, 0x11#8] s

/-- 0F 38 12 to 13: invalid opcode (R153). -/
def execB3_0F38_12_13 (sel : BitVec 1) (s : State) : Outcome State Fault Refusal :=
  sweep [0x0F#8, 0x38#8, blockByte 0x12#8 sel] s

/-- 0F 38 14 to 15: three-byte opcode (R152). -/
def execB3_0F38_14_15 (sel : BitVec 1) (s : State) : Outcome State Fault Refusal :=
  sweep [0x0F#8, 0x38#8, blockByte 0x14#8 sel] s

/-- 0F 38 16: invalid opcode (R153). -/
def execB3_0F38_16 (s : State) : Outcome State Fault Refusal :=
  sweep [0x0F#8, 0x38#8, 0x16#8] s

/-- 0F 38 17: three-byte opcode (R152). -/
def execB3_0F38_17 (s : State) : Outcome State Fault Refusal :=
  sweep [0x0F#8, 0x38#8, 0x17#8] s

/-- 0F 38 18 to 1B: invalid opcode (R153). -/
def execB3_0F38_18_1B (sel : BitVec 2) (s : State) : Outcome State Fault Refusal :=
  sweep [0x0F#8, 0x38#8, blockByte 0x18#8 sel] s

/-- 0F 38 1C to 1D: three-byte opcode (R152). -/
def execB3_0F38_1C_1D (sel : BitVec 1) (s : State) : Outcome State Fault Refusal :=
  sweep [0x0F#8, 0x38#8, blockByte 0x1C#8 sel] s

/-- 0F 38 1E: three-byte opcode (R152). -/
def execB3_0F38_1E (s : State) : Outcome State Fault Refusal :=
  sweep [0x0F#8, 0x38#8, 0x1E#8] s

/-- 0F 38 1F: invalid opcode (R153). -/
def execB3_0F38_1F (s : State) : Outcome State Fault Refusal :=
  sweep [0x0F#8, 0x38#8, 0x1F#8] s

/-- 0F 38 20 to 23: three-byte opcode (R152). -/
def execB3_0F38_20_23 (sel : BitVec 2) (s : State) : Outcome State Fault Refusal :=
  sweep [0x0F#8, 0x38#8, blockByte 0x20#8 sel] s

/-- 0F 38 24 to 25: three-byte opcode (R152). -/
def execB3_0F38_24_25 (sel : BitVec 1) (s : State) : Outcome State Fault Refusal :=
  sweep [0x0F#8, 0x38#8, blockByte 0x24#8 sel] s

/-- 0F 38 26 to 27: invalid opcode (R153). -/
def execB3_0F38_26_27 (sel : BitVec 1) (s : State) : Outcome State Fault Refusal :=
  sweep [0x0F#8, 0x38#8, blockByte 0x26#8 sel] s

/-- 0F 38 28 to 2B: three-byte opcode (R152). -/
def execB3_0F38_28_2B (sel : BitVec 2) (s : State) : Outcome State Fault Refusal :=
  sweep [0x0F#8, 0x38#8, blockByte 0x28#8 sel] s

/-- 0F 38 2C to 2F: invalid opcode (R153). -/
def execB3_0F38_2C_2F (sel : BitVec 2) (s : State) : Outcome State Fault Refusal :=
  sweep [0x0F#8, 0x38#8, blockByte 0x2C#8 sel] s

/-- 0F 38 30 to 33: three-byte opcode (R152). -/
def execB3_0F38_30_33 (sel : BitVec 2) (s : State) : Outcome State Fault Refusal :=
  sweep [0x0F#8, 0x38#8, blockByte 0x30#8 sel] s

/-- 0F 38 34 to 35: three-byte opcode (R152). -/
def execB3_0F38_34_35 (sel : BitVec 1) (s : State) : Outcome State Fault Refusal :=
  sweep [0x0F#8, 0x38#8, blockByte 0x34#8 sel] s

/-- 0F 38 36: invalid opcode (R153). -/
def execB3_0F38_36 (s : State) : Outcome State Fault Refusal :=
  sweep [0x0F#8, 0x38#8, 0x36#8] s

/-- 0F 38 37: three-byte opcode (R152). -/
def execB3_0F38_37 (s : State) : Outcome State Fault Refusal :=
  sweep [0x0F#8, 0x38#8, 0x37#8] s

/-- 0F 38 38 to 3F: three-byte opcode (R152). -/
def execB3_0F38_38_3F (sel : BitVec 3) (s : State) : Outcome State Fault Refusal :=
  sweep [0x0F#8, 0x38#8, blockByte 0x38#8 sel] s

/-- 0F 38 40 to 41: three-byte opcode (R152). -/
def execB3_0F38_40_41 (sel : BitVec 1) (s : State) : Outcome State Fault Refusal :=
  sweep [0x0F#8, 0x38#8, blockByte 0x40#8 sel] s

/-- 0F 38 42 to 43: invalid opcode (R153). -/
def execB3_0F38_42_43 (sel : BitVec 1) (s : State) : Outcome State Fault Refusal :=
  sweep [0x0F#8, 0x38#8, blockByte 0x42#8 sel] s

/-- 0F 38 44 to 47: invalid opcode (R153). -/
def execB3_0F38_44_47 (sel : BitVec 2) (s : State) : Outcome State Fault Refusal :=
  sweep [0x0F#8, 0x38#8, blockByte 0x44#8 sel] s

/-- 0F 38 48 to 4F: invalid opcode (R153). -/
def execB3_0F38_48_4F (sel : BitVec 3) (s : State) : Outcome State Fault Refusal :=
  sweep [0x0F#8, 0x38#8, blockByte 0x48#8 sel] s

/-- 0F 38 50 to 5F: invalid opcode (R153). -/
def execB3_0F38_50_5F (sel : BitVec 4) (s : State) : Outcome State Fault Refusal :=
  sweep [0x0F#8, 0x38#8, blockByte 0x50#8 sel] s

/-- 0F 38 60 to 7F: invalid opcode (R153). -/
def execB3_0F38_60_7F (sel : BitVec 5) (s : State) : Outcome State Fault Refusal :=
  sweep [0x0F#8, 0x38#8, blockByte 0x60#8 sel] s

/-- 0F 38 80 to 81: three-byte opcode (R152). -/
def execB3_0F38_80_81 (sel : BitVec 1) (s : State) : Outcome State Fault Refusal :=
  sweep [0x0F#8, 0x38#8, blockByte 0x80#8 sel] s

/-- 0F 38 82: three-byte opcode (R152). -/
def execB3_0F38_82 (s : State) : Outcome State Fault Refusal :=
  sweep [0x0F#8, 0x38#8, 0x82#8] s

/-- 0F 38 83: invalid opcode (R153). -/
def execB3_0F38_83 (s : State) : Outcome State Fault Refusal :=
  sweep [0x0F#8, 0x38#8, 0x83#8] s

/-- 0F 38 84 to 87: invalid opcode (R153). -/
def execB3_0F38_84_87 (sel : BitVec 2) (s : State) : Outcome State Fault Refusal :=
  sweep [0x0F#8, 0x38#8, blockByte 0x84#8 sel] s

/-- 0F 38 88 to 8F: invalid opcode (R153). -/
def execB3_0F38_88_8F (sel : BitVec 3) (s : State) : Outcome State Fault Refusal :=
  sweep [0x0F#8, 0x38#8, blockByte 0x88#8 sel] s

/-- 0F 38 90 to 9F: invalid opcode (R153). -/
def execB3_0F38_90_9F (sel : BitVec 4) (s : State) : Outcome State Fault Refusal :=
  sweep [0x0F#8, 0x38#8, blockByte 0x90#8 sel] s

/-- 0F 38 A0 to BF: invalid opcode (R153). -/
def execB3_0F38_A0_BF (sel : BitVec 5) (s : State) : Outcome State Fault Refusal :=
  sweep [0x0F#8, 0x38#8, blockByte 0xA0#8 sel] s

/-- 0F 38 C0 to C7: invalid opcode (R153). -/
def execB3_0F38_C0_C7 (sel : BitVec 3) (s : State) : Outcome State Fault Refusal :=
  sweep [0x0F#8, 0x38#8, blockByte 0xC0#8 sel] s

/-- 0F 38 C8 to CB: three-byte opcode (R152). -/
def execB3_0F38_C8_CB (sel : BitVec 2) (s : State) : Outcome State Fault Refusal :=
  sweep [0x0F#8, 0x38#8, blockByte 0xC8#8 sel] s

/-- 0F 38 CC to CD: three-byte opcode (R152). -/
def execB3_0F38_CC_CD (sel : BitVec 1) (s : State) : Outcome State Fault Refusal :=
  sweep [0x0F#8, 0x38#8, blockByte 0xCC#8 sel] s

/-- 0F 38 CE to CF: invalid opcode (R153). -/
def execB3_0F38_CE_CF (sel : BitVec 1) (s : State) : Outcome State Fault Refusal :=
  sweep [0x0F#8, 0x38#8, blockByte 0xCE#8 sel] s

/-- 0F 38 D0 to D7: invalid opcode (R153). -/
def execB3_0F38_D0_D7 (sel : BitVec 3) (s : State) : Outcome State Fault Refusal :=
  sweep [0x0F#8, 0x38#8, blockByte 0xD0#8 sel] s

/-- 0F 38 D8 to D9: invalid opcode (R153). -/
def execB3_0F38_D8_D9 (sel : BitVec 1) (s : State) : Outcome State Fault Refusal :=
  sweep [0x0F#8, 0x38#8, blockByte 0xD8#8 sel] s

/-- 0F 38 DA: invalid opcode (R153). -/
def execB3_0F38_DA (s : State) : Outcome State Fault Refusal :=
  sweep [0x0F#8, 0x38#8, 0xDA#8] s

/-- 0F 38 DB: three-byte opcode (R152). -/
def execB3_0F38_DB (s : State) : Outcome State Fault Refusal :=
  sweep [0x0F#8, 0x38#8, 0xDB#8] s

/-- 0F 38 DC to DF: three-byte opcode (R152). -/
def execB3_0F38_DC_DF (sel : BitVec 2) (s : State) : Outcome State Fault Refusal :=
  sweep [0x0F#8, 0x38#8, blockByte 0xDC#8 sel] s

/-- 0F 38 E0 to EF: invalid opcode (R153). -/
def execB3_0F38_E0_EF (sel : BitVec 4) (s : State) : Outcome State Fault Refusal :=
  sweep [0x0F#8, 0x38#8, blockByte 0xE0#8 sel] s

/-- 0F 38 F0 to F1: three-byte opcode (R152). -/
def execB3_0F38_F0_F1 (sel : BitVec 1) (s : State) : Outcome State Fault Refusal :=
  sweep [0x0F#8, 0x38#8, blockByte 0xF0#8 sel] s

/-- 0F 38 F2 to F3: invalid opcode (R153). -/
def execB3_0F38_F2_F3 (sel : BitVec 1) (s : State) : Outcome State Fault Refusal :=
  sweep [0x0F#8, 0x38#8, blockByte 0xF2#8 sel] s

/-- 0F 38 F4 to F5: invalid opcode (R153). -/
def execB3_0F38_F4_F5 (sel : BitVec 1) (s : State) : Outcome State Fault Refusal :=
  sweep [0x0F#8, 0x38#8, blockByte 0xF4#8 sel] s

/-- 0F 38 F6: three-byte opcode (R152). -/
def execB3_0F38_F6 (s : State) : Outcome State Fault Refusal :=
  sweep [0x0F#8, 0x38#8, 0xF6#8] s

/-- 0F 38 F7: invalid opcode (R153). -/
def execB3_0F38_F7 (s : State) : Outcome State Fault Refusal :=
  sweep [0x0F#8, 0x38#8, 0xF7#8] s

/-- 0F 38 F8 to FF: invalid opcode (R153). -/
def execB3_0F38_F8_FF (sel : BitVec 3) (s : State) : Outcome State Fault Refusal :=
  sweep [0x0F#8, 0x38#8, blockByte 0xF8#8 sel] s

end Sys2Proof.Machine
end

