-- ==== Sys2Proof/Machine/MapThree3A.lean ====
section
/-! DEFINITION. The meanings of the byte-class rows of the three-byte map 0F 3A (30_encoding.md R85, R111; 40_decode.md R152, R153): what the block
does with an instruction whose bytes begin with the row's opcode bytes, which is the pull of 42_iterator.md R225 with those
bytes at CUR (assumption log 9). -/

namespace Sys2Proof.Machine

open Host

/-- 0F 3A 00 to 07: invalid opcode (R153). -/
def execB3_0F3A_00_07 (sel : BitVec 3) (s : State) : Outcome State Fault Refusal :=
  sweep [0x0F#8, 0x3A#8, blockByte 0x00#8 sel] s

/-- 0F 3A 08 to 0F: three-byte opcode (R152). -/
def execB3_0F3A_08_0F (sel : BitVec 3) (s : State) : Outcome State Fault Refusal :=
  sweep [0x0F#8, 0x3A#8, blockByte 0x08#8 sel] s

/-- 0F 3A 10 to 13: invalid opcode (R153). -/
def execB3_0F3A_10_13 (sel : BitVec 2) (s : State) : Outcome State Fault Refusal :=
  sweep [0x0F#8, 0x3A#8, blockByte 0x10#8 sel] s

/-- 0F 3A 14 to 17: three-byte opcode (R152). -/
def execB3_0F3A_14_17 (sel : BitVec 2) (s : State) : Outcome State Fault Refusal :=
  sweep [0x0F#8, 0x3A#8, blockByte 0x14#8 sel] s

/-- 0F 3A 18 to 1F: invalid opcode (R153). -/
def execB3_0F3A_18_1F (sel : BitVec 3) (s : State) : Outcome State Fault Refusal :=
  sweep [0x0F#8, 0x3A#8, blockByte 0x18#8 sel] s

/-- 0F 3A 20 to 21: three-byte opcode (R152). -/
def execB3_0F3A_20_21 (sel : BitVec 1) (s : State) : Outcome State Fault Refusal :=
  sweep [0x0F#8, 0x3A#8, blockByte 0x20#8 sel] s

/-- 0F 3A 22: three-byte opcode (R152). -/
def execB3_0F3A_22 (s : State) : Outcome State Fault Refusal :=
  sweep [0x0F#8, 0x3A#8, 0x22#8] s

/-- 0F 3A 23: invalid opcode (R153). -/
def execB3_0F3A_23 (s : State) : Outcome State Fault Refusal :=
  sweep [0x0F#8, 0x3A#8, 0x23#8] s

/-- 0F 3A 24 to 27: invalid opcode (R153). -/
def execB3_0F3A_24_27 (sel : BitVec 2) (s : State) : Outcome State Fault Refusal :=
  sweep [0x0F#8, 0x3A#8, blockByte 0x24#8 sel] s

/-- 0F 3A 28 to 2F: invalid opcode (R153). -/
def execB3_0F3A_28_2F (sel : BitVec 3) (s : State) : Outcome State Fault Refusal :=
  sweep [0x0F#8, 0x3A#8, blockByte 0x28#8 sel] s

/-- 0F 3A 30 to 3F: invalid opcode (R153). -/
def execB3_0F3A_30_3F (sel : BitVec 4) (s : State) : Outcome State Fault Refusal :=
  sweep [0x0F#8, 0x3A#8, blockByte 0x30#8 sel] s

/-- 0F 3A 40 to 41: three-byte opcode (R152). -/
def execB3_0F3A_40_41 (sel : BitVec 1) (s : State) : Outcome State Fault Refusal :=
  sweep [0x0F#8, 0x3A#8, blockByte 0x40#8 sel] s

/-- 0F 3A 42: three-byte opcode (R152). -/
def execB3_0F3A_42 (s : State) : Outcome State Fault Refusal :=
  sweep [0x0F#8, 0x3A#8, 0x42#8] s

/-- 0F 3A 43: invalid opcode (R153). -/
def execB3_0F3A_43 (s : State) : Outcome State Fault Refusal :=
  sweep [0x0F#8, 0x3A#8, 0x43#8] s

/-- 0F 3A 44: three-byte opcode (R152). -/
def execB3_0F3A_44 (s : State) : Outcome State Fault Refusal :=
  sweep [0x0F#8, 0x3A#8, 0x44#8] s

/-- 0F 3A 45: invalid opcode (R153). -/
def execB3_0F3A_45 (s : State) : Outcome State Fault Refusal :=
  sweep [0x0F#8, 0x3A#8, 0x45#8] s

/-- 0F 3A 46 to 47: invalid opcode (R153). -/
def execB3_0F3A_46_47 (sel : BitVec 1) (s : State) : Outcome State Fault Refusal :=
  sweep [0x0F#8, 0x3A#8, blockByte 0x46#8 sel] s

/-- 0F 3A 48 to 4F: invalid opcode (R153). -/
def execB3_0F3A_48_4F (sel : BitVec 3) (s : State) : Outcome State Fault Refusal :=
  sweep [0x0F#8, 0x3A#8, blockByte 0x48#8 sel] s

/-- 0F 3A 50 to 5F: invalid opcode (R153). -/
def execB3_0F3A_50_5F (sel : BitVec 4) (s : State) : Outcome State Fault Refusal :=
  sweep [0x0F#8, 0x3A#8, blockByte 0x50#8 sel] s

/-- 0F 3A 60 to 63: three-byte opcode (R152). -/
def execB3_0F3A_60_63 (sel : BitVec 2) (s : State) : Outcome State Fault Refusal :=
  sweep [0x0F#8, 0x3A#8, blockByte 0x60#8 sel] s

/-- 0F 3A 64 to 67: invalid opcode (R153). -/
def execB3_0F3A_64_67 (sel : BitVec 2) (s : State) : Outcome State Fault Refusal :=
  sweep [0x0F#8, 0x3A#8, blockByte 0x64#8 sel] s

/-- 0F 3A 68 to 6F: invalid opcode (R153). -/
def execB3_0F3A_68_6F (sel : BitVec 3) (s : State) : Outcome State Fault Refusal :=
  sweep [0x0F#8, 0x3A#8, blockByte 0x68#8 sel] s

/-- 0F 3A 70 to 7F: invalid opcode (R153). -/
def execB3_0F3A_70_7F (sel : BitVec 4) (s : State) : Outcome State Fault Refusal :=
  sweep [0x0F#8, 0x3A#8, blockByte 0x70#8 sel] s

/-- 0F 3A 80 to BF: invalid opcode (R153). -/
def execB3_0F3A_80_BF (sel : BitVec 6) (s : State) : Outcome State Fault Refusal :=
  sweep [0x0F#8, 0x3A#8, blockByte 0x80#8 sel] s

/-- 0F 3A C0 to C7: invalid opcode (R153). -/
def execB3_0F3A_C0_C7 (sel : BitVec 3) (s : State) : Outcome State Fault Refusal :=
  sweep [0x0F#8, 0x3A#8, blockByte 0xC0#8 sel] s

/-- 0F 3A C8 to CB: invalid opcode (R153). -/
def execB3_0F3A_C8_CB (sel : BitVec 2) (s : State) : Outcome State Fault Refusal :=
  sweep [0x0F#8, 0x3A#8, blockByte 0xC8#8 sel] s

/-- 0F 3A CC: three-byte opcode (R152). -/
def execB3_0F3A_CC (s : State) : Outcome State Fault Refusal :=
  sweep [0x0F#8, 0x3A#8, 0xCC#8] s

/-- 0F 3A CD: invalid opcode (R153). -/
def execB3_0F3A_CD (s : State) : Outcome State Fault Refusal :=
  sweep [0x0F#8, 0x3A#8, 0xCD#8] s

/-- 0F 3A CE to CF: invalid opcode (R153). -/
def execB3_0F3A_CE_CF (sel : BitVec 1) (s : State) : Outcome State Fault Refusal :=
  sweep [0x0F#8, 0x3A#8, blockByte 0xCE#8 sel] s

/-- 0F 3A D0 to D7: invalid opcode (R153). -/
def execB3_0F3A_D0_D7 (sel : BitVec 3) (s : State) : Outcome State Fault Refusal :=
  sweep [0x0F#8, 0x3A#8, blockByte 0xD0#8 sel] s

/-- 0F 3A D8 to DB: invalid opcode (R153). -/
def execB3_0F3A_D8_DB (sel : BitVec 2) (s : State) : Outcome State Fault Refusal :=
  sweep [0x0F#8, 0x3A#8, blockByte 0xD8#8 sel] s

/-- 0F 3A DC to DD: invalid opcode (R153). -/
def execB3_0F3A_DC_DD (sel : BitVec 1) (s : State) : Outcome State Fault Refusal :=
  sweep [0x0F#8, 0x3A#8, blockByte 0xDC#8 sel] s

/-- 0F 3A DE: invalid opcode (R153). -/
def execB3_0F3A_DE (s : State) : Outcome State Fault Refusal :=
  sweep [0x0F#8, 0x3A#8, 0xDE#8] s

/-- 0F 3A DF: three-byte opcode (R152). -/
def execB3_0F3A_DF (s : State) : Outcome State Fault Refusal :=
  sweep [0x0F#8, 0x3A#8, 0xDF#8] s

/-- 0F 3A E0 to FF: invalid opcode (R153). -/
def execB3_0F3A_E0_FF (sel : BitVec 5) (s : State) : Outcome State Fault Refusal :=
  sweep [0x0F#8, 0x3A#8, blockByte 0xE0#8 sel] s

end Sys2Proof.Machine
end

