-- ==== Sys2Proof/Machine/MapTwo.lean ====
section
/-! DEFINITION. The meanings of the byte-class rows of the two-byte map 0F (30_encoding.md R85, R110; 40_decode.md R150 to R154): what the block
does with an instruction whose bytes begin with the row's opcode bytes, which is the pull of 42_iterator.md R225 with those
bytes at CUR (assumption log 9). -/

namespace Sys2Proof.Machine

open Host

/-- 0F 00 to 03: two-byte opcode (R154). -/
def execB2_0F_00_03 (sel : BitVec 2) (s : State) : Outcome State Fault Refusal :=
  sweep [0x0F#8, blockByte 0x00#8 sel] s

/-- 0F 04: invalid opcode (R153). -/
def execB2_0F_04 (s : State) : Outcome State Fault Refusal :=
  sweep [0x0F#8, 0x04#8] s

/-- 0F 05: two-byte opcode (R154). -/
def execB2_0F_05 (s : State) : Outcome State Fault Refusal :=
  sweep [0x0F#8, 0x05#8] s

/-- 0F 06 to 07: two-byte opcode (R154). -/
def execB2_0F_06_07 (sel : BitVec 1) (s : State) : Outcome State Fault Refusal :=
  sweep [0x0F#8, blockByte 0x06#8 sel] s

/-- 0F 08 to 09: two-byte opcode (R154). -/
def execB2_0F_08_09 (sel : BitVec 1) (s : State) : Outcome State Fault Refusal :=
  sweep [0x0F#8, blockByte 0x08#8 sel] s

/-- 0F 0A: invalid opcode (R153). -/
def execB2_0F_0A (s : State) : Outcome State Fault Refusal :=
  sweep [0x0F#8, 0x0A#8] s

/-- 0F 0B: two-byte opcode (R154). -/
def execB2_0F_0B (s : State) : Outcome State Fault Refusal :=
  sweep [0x0F#8, 0x0B#8] s

/-- 0F 0C: invalid opcode (R153). -/
def execB2_0F_0C (s : State) : Outcome State Fault Refusal :=
  sweep [0x0F#8, 0x0C#8] s

/-- 0F 0D: two-byte opcode (R154). -/
def execB2_0F_0D (s : State) : Outcome State Fault Refusal :=
  sweep [0x0F#8, 0x0D#8] s

/-- 0F 0E: two-byte opcode (R154). -/
def execB2_0F_0E (s : State) : Outcome State Fault Refusal :=
  sweep [0x0F#8, 0x0E#8] s

/-- 0F 0F: two-byte opcode (R154). -/
def execB2_0F_0F (s : State) : Outcome State Fault Refusal :=
  sweep [0x0F#8, 0x0F#8] s

/-- 0F 10 to 1F: two-byte opcode (R154). -/
def execB2_0F_10_1F (sel : BitVec 4) (s : State) : Outcome State Fault Refusal :=
  sweep [0x0F#8, blockByte 0x10#8 sel] s

/-- 0F 20 to 23: two-byte opcode (R154). -/
def execB2_0F_20_23 (sel : BitVec 2) (s : State) : Outcome State Fault Refusal :=
  sweep [0x0F#8, blockByte 0x20#8 sel] s

/-- 0F 24 to 27: invalid opcode (R153). -/
def execB2_0F_24_27 (sel : BitVec 2) (s : State) : Outcome State Fault Refusal :=
  sweep [0x0F#8, blockByte 0x24#8 sel] s

/-- 0F 28 to 2F: two-byte opcode (R154). -/
def execB2_0F_28_2F (sel : BitVec 3) (s : State) : Outcome State Fault Refusal :=
  sweep [0x0F#8, blockByte 0x28#8 sel] s

/-- 0F 30 to 33: two-byte opcode (R154). -/
def execB2_0F_30_33 (sel : BitVec 2) (s : State) : Outcome State Fault Refusal :=
  sweep [0x0F#8, blockByte 0x30#8 sel] s

/-- 0F 34 to 35: two-byte opcode (R154). -/
def execB2_0F_34_35 (sel : BitVec 1) (s : State) : Outcome State Fault Refusal :=
  sweep [0x0F#8, blockByte 0x34#8 sel] s

/-- 0F 36: invalid opcode (R153). -/
def execB2_0F_36 (s : State) : Outcome State Fault Refusal :=
  sweep [0x0F#8, 0x36#8] s

/-- 0F 37: two-byte opcode (R154). -/
def execB2_0F_37 (s : State) : Outcome State Fault Refusal :=
  sweep [0x0F#8, 0x37#8] s

/-- 0F 38: escape (R152). -/
def execB2_0F_38 (s : State) : Outcome State Fault Refusal :=
  sweep [0x0F#8, 0x38#8] s

/-- 0F 39: invalid opcode (R153). -/
def execB2_0F_39 (s : State) : Outcome State Fault Refusal :=
  sweep [0x0F#8, 0x39#8] s

/-- 0F 3A: escape (R152). -/
def execB2_0F_3A (s : State) : Outcome State Fault Refusal :=
  sweep [0x0F#8, 0x3A#8] s

/-- 0F 3B: invalid opcode (R153). -/
def execB2_0F_3B (s : State) : Outcome State Fault Refusal :=
  sweep [0x0F#8, 0x3B#8] s

/-- 0F 3C to 3F: invalid opcode (R153). -/
def execB2_0F_3C_3F (sel : BitVec 2) (s : State) : Outcome State Fault Refusal :=
  sweep [0x0F#8, blockByte 0x3C#8 sel] s

/-- 0F 40 to 5F: two-byte opcode (R154). -/
def execB2_0F_40_5F (sel : BitVec 5) (s : State) : Outcome State Fault Refusal :=
  sweep [0x0F#8, blockByte 0x40#8 sel] s

/-- 0F 60 to 6F: two-byte opcode (R154). -/
def execB2_0F_60_6F (sel : BitVec 4) (s : State) : Outcome State Fault Refusal :=
  sweep [0x0F#8, blockByte 0x60#8 sel] s

/-- 0F 70 to 73: two-byte opcode (R154). -/
def execB2_0F_70_73 (sel : BitVec 2) (s : State) : Outcome State Fault Refusal :=
  sweep [0x0F#8, blockByte 0x70#8 sel] s

/-- 0F 74 to 75: two-byte opcode (R154). -/
def execB2_0F_74_75 (sel : BitVec 1) (s : State) : Outcome State Fault Refusal :=
  sweep [0x0F#8, blockByte 0x74#8 sel] s

/-- 0F 76: two-byte opcode (R154). -/
def execB2_0F_76 (s : State) : Outcome State Fault Refusal :=
  sweep [0x0F#8, 0x76#8] s

/-- 0F 77: two-byte opcode (R154). -/
def execB2_0F_77 (s : State) : Outcome State Fault Refusal :=
  sweep [0x0F#8, 0x77#8] s

/-- 0F 78 to 79: two-byte opcode (R154). -/
def execB2_0F_78_79 (sel : BitVec 1) (s : State) : Outcome State Fault Refusal :=
  sweep [0x0F#8, blockByte 0x78#8 sel] s

/-- 0F 7A to 7B: invalid opcode (R153). -/
def execB2_0F_7A_7B (sel : BitVec 1) (s : State) : Outcome State Fault Refusal :=
  sweep [0x0F#8, blockByte 0x7A#8 sel] s

/-- 0F 7C to 7F: two-byte opcode (R154). -/
def execB2_0F_7C_7F (sel : BitVec 2) (s : State) : Outcome State Fault Refusal :=
  sweep [0x0F#8, blockByte 0x7C#8 sel] s

/-- 0F 80 to 8F: two-byte opcode (R154). -/
def execB2_0F_80_8F (sel : BitVec 4) (s : State) : Outcome State Fault Refusal :=
  sweep [0x0F#8, blockByte 0x80#8 sel] s

/-- 0F 90 to 9F: two-byte opcode (R154). -/
def execB2_0F_90_9F (sel : BitVec 4) (s : State) : Outcome State Fault Refusal :=
  sweep [0x0F#8, blockByte 0x90#8 sel] s

/-- 0F A0 to A1: two-byte opcode (R154). -/
def execB2_0F_A0_A1 (sel : BitVec 1) (s : State) : Outcome State Fault Refusal :=
  sweep [0x0F#8, blockByte 0xA0#8 sel] s

/-- 0F A2: two-byte opcode (R154). -/
def execB2_0F_A2 (s : State) : Outcome State Fault Refusal :=
  sweep [0x0F#8, 0xA2#8] s

/-- 0F A3: two-byte opcode (R154). -/
def execB2_0F_A3 (s : State) : Outcome State Fault Refusal :=
  sweep [0x0F#8, 0xA3#8] s

/-- 0F A4: two-byte opcode (R154). -/
def execB2_0F_A4 (s : State) : Outcome State Fault Refusal :=
  sweep [0x0F#8, 0xA4#8] s

/-- 0F A5: two-byte opcode (R154). -/
def execB2_0F_A5 (s : State) : Outcome State Fault Refusal :=
  sweep [0x0F#8, 0xA5#8] s

/-- 0F A6 to A7: invalid opcode (R153). -/
def execB2_0F_A6_A7 (sel : BitVec 1) (s : State) : Outcome State Fault Refusal :=
  sweep [0x0F#8, blockByte 0xA6#8 sel] s

/-- 0F A8 to A9: two-byte opcode (R154). -/
def execB2_0F_A8_A9 (sel : BitVec 1) (s : State) : Outcome State Fault Refusal :=
  sweep [0x0F#8, blockByte 0xA8#8 sel] s

/-- 0F AA: two-byte opcode (R154). -/
def execB2_0F_AA (s : State) : Outcome State Fault Refusal :=
  sweep [0x0F#8, 0xAA#8] s

/-- 0F AB: two-byte opcode (R154). -/
def execB2_0F_AB (s : State) : Outcome State Fault Refusal :=
  sweep [0x0F#8, 0xAB#8] s

/-- 0F AC: two-byte opcode (R154). -/
def execB2_0F_AC (s : State) : Outcome State Fault Refusal :=
  sweep [0x0F#8, 0xAC#8] s

/-- 0F AD: two-byte opcode (R154). -/
def execB2_0F_AD (s : State) : Outcome State Fault Refusal :=
  sweep [0x0F#8, 0xAD#8] s

/-- 0F AE to AF: two-byte opcode (R154). -/
def execB2_0F_AE_AF (sel : BitVec 1) (s : State) : Outcome State Fault Refusal :=
  sweep [0x0F#8, blockByte 0xAE#8 sel] s

/-- 0F B0 to B7: two-byte opcode (R154). -/
def execB2_0F_B0_B7 (sel : BitVec 3) (s : State) : Outcome State Fault Refusal :=
  sweep [0x0F#8, blockByte 0xB0#8 sel] s

/-- 0F B8 to B9: two-byte opcode (R154). -/
def execB2_0F_B8_B9 (sel : BitVec 1) (s : State) : Outcome State Fault Refusal :=
  sweep [0x0F#8, blockByte 0xB8#8 sel] s

/-- 0F BA: two-byte opcode (R154). -/
def execB2_0F_BA (s : State) : Outcome State Fault Refusal :=
  sweep [0x0F#8, 0xBA#8] s

/-- 0F BB: two-byte opcode (R154). -/
def execB2_0F_BB (s : State) : Outcome State Fault Refusal :=
  sweep [0x0F#8, 0xBB#8] s

/-- 0F BC to BF: two-byte opcode (R154). -/
def execB2_0F_BC_BF (sel : BitVec 2) (s : State) : Outcome State Fault Refusal :=
  sweep [0x0F#8, blockByte 0xBC#8 sel] s

/-- 0F C0 to C1: two-byte opcode (R154). -/
def execB2_0F_C0_C1 (sel : BitVec 1) (s : State) : Outcome State Fault Refusal :=
  sweep [0x0F#8, blockByte 0xC0#8 sel] s

/-- 0F C2: two-byte opcode (R154). -/
def execB2_0F_C2 (s : State) : Outcome State Fault Refusal :=
  sweep [0x0F#8, 0xC2#8] s

/-- 0F C3: two-byte opcode (R154). -/
def execB2_0F_C3 (s : State) : Outcome State Fault Refusal :=
  sweep [0x0F#8, 0xC3#8] s

/-- 0F C4 to C5: two-byte opcode (R154). -/
def execB2_0F_C4_C5 (sel : BitVec 1) (s : State) : Outcome State Fault Refusal :=
  sweep [0x0F#8, blockByte 0xC4#8 sel] s

/-- 0F C6: two-byte opcode (R154). -/
def execB2_0F_C6 (s : State) : Outcome State Fault Refusal :=
  sweep [0x0F#8, 0xC6#8] s

/-- 0F C7: two-byte opcode (R154). -/
def execB2_0F_C7 (s : State) : Outcome State Fault Refusal :=
  sweep [0x0F#8, 0xC7#8] s

/-- 0F C8 to CF: two-byte opcode (R154). -/
def execB2_0F_C8_CF (sel : BitVec 3) (s : State) : Outcome State Fault Refusal :=
  sweep [0x0F#8, blockByte 0xC8#8 sel] s

/-- 0F D0 to DF: two-byte opcode (R154). -/
def execB2_0F_D0_DF (sel : BitVec 4) (s : State) : Outcome State Fault Refusal :=
  sweep [0x0F#8, blockByte 0xD0#8 sel] s

/-- 0F E0 to EF: two-byte opcode (R154). -/
def execB2_0F_E0_EF (sel : BitVec 4) (s : State) : Outcome State Fault Refusal :=
  sweep [0x0F#8, blockByte 0xE0#8 sel] s

/-- 0F F0 to F7: two-byte opcode (R154). -/
def execB2_0F_F0_F7 (sel : BitVec 3) (s : State) : Outcome State Fault Refusal :=
  sweep [0x0F#8, blockByte 0xF0#8 sel] s

/-- 0F F8 to FB: two-byte opcode (R154). -/
def execB2_0F_F8_FB (sel : BitVec 2) (s : State) : Outcome State Fault Refusal :=
  sweep [0x0F#8, blockByte 0xF8#8 sel] s

/-- 0F FC to FD: two-byte opcode (R154). -/
def execB2_0F_FC_FD (sel : BitVec 1) (s : State) : Outcome State Fault Refusal :=
  sweep [0x0F#8, blockByte 0xFC#8 sel] s

/-- 0F FE: two-byte opcode (R154). -/
def execB2_0F_FE (s : State) : Outcome State Fault Refusal :=
  sweep [0x0F#8, 0xFE#8] s

/-- 0F FF: invalid opcode (R153). -/
def execB2_0F_FF (s : State) : Outcome State Fault Refusal :=
  sweep [0x0F#8, 0xFF#8] s

end Sys2Proof.Machine
end

