-- ==== Sys2Proof/Machine/ViewRead.lean ====
section
/-! DEFINITION. The eight typed reads (41_view.md R186 to R194): little-endian (20_memory.md R54), any offset (R56),
ViewBounds and no other fault. -/

namespace Sys2Proof.Machine

open Host

/-- R186: what the typed reads of `w` bytes share; `shape` reads the `8w`-bit pattern as the command's shape. -/
def typedRead (w : Nat) (shape : Nat → Response) (v : View) (off : Nat) (s : State) : Outcome State Fault Refusal :=
  unlessLatched s (withView v s (withAccess v off w s fun addr => answer (shape (s.mem.read addr w)) s))

/-- `zext` (R12): the pattern as a natural number. -/
def unsignedShape (n : Nat) : Response := .unsigned n

/-- `sext` (R12): the pattern of `w` bytes as a two's complement integer. -/
def signedShape (w n : Nat) : Response := .signed (signValue w n)

/-- R187. -/
def execViewReadU8 (v : View) (off : Nat) (s : State) : Outcome State Fault Refusal :=
  typedRead 1 unsignedShape v off s

/-- R188. -/
def execViewReadU16 (v : View) (off : Nat) (s : State) : Outcome State Fault Refusal :=
  typedRead 2 unsignedShape v off s

/-- R189. -/
def execViewReadU32 (v : View) (off : Nat) (s : State) : Outcome State Fault Refusal :=
  typedRead 4 unsignedShape v off s

/-- R190. -/
def execViewReadU64 (v : View) (off : Nat) (s : State) : Outcome State Fault Refusal :=
  typedRead 8 unsignedShape v off s

/-- R191. -/
def execViewReadI8 (v : View) (off : Nat) (s : State) : Outcome State Fault Refusal :=
  typedRead 1 (signedShape 1) v off s

/-- R192. -/
def execViewReadI16 (v : View) (off : Nat) (s : State) : Outcome State Fault Refusal :=
  typedRead 2 (signedShape 2) v off s

/-- R193. -/
def execViewReadI32 (v : View) (off : Nat) (s : State) : Outcome State Fault Refusal :=
  typedRead 4 (signedShape 4) v off s

/-- R194. -/
def execViewReadI64 (v : View) (off : Nat) (s : State) : Outcome State Fault Refusal :=
  typedRead 8 (signedShape 8) v off s

end Sys2Proof.Machine
end

