-- ==== Sys2Proof/Machine/ViewWhole.lean ====
section
/-! DEFINITION. The commands over whole views (41_view.md): VIEW_LEN (R184), VIEW_BYTES (R185), VIEW_EQ (R205), VIEW_CMP
(R206), VIEW_HASH (R207). -/

namespace Sys2Proof.Machine

open Host

/-- R184: the operand's own length; no memory is read. -/
def execViewLen (v : View) (s : State) : Outcome State Fault Refusal :=
  unlessLatched s (withView v s (answer (.length v.len) s))

/-- R185: the bytes as the buffer is now. -/
def execViewBytes (v : View) (s : State) : Outcome State Fault Refusal :=
  unlessLatched s (withViewBytes v s fun bs => answer (.bytes bs) s)

/-- R205: same length and same bytes; bases, `mut` bits and addresses play no part. -/
def execViewEq (a b : View) (s : State) : Outcome State Fault Refusal :=
  unlessLatched s (withViewBytes a s fun xs => withViewBytes b s fun ys => answer (.equal (decide (xs = ys))) s)

/-- R206: lexicographic order, bytes as unsigned numbers, a proper prefix first. -/
def compareBytes : List Byte → List Byte → Ordering
  | [], [] => .eq
  | [], _ :: _ => .lt
  | _ :: _, [] => .gt
  | x :: xs, y :: ys => if x.toNat < y.toNat then .lt else if y.toNat < x.toNat then .gt else compareBytes xs ys

/-- R206. -/
def execViewCmp (a b : View) (s : State) : Outcome State Fault Refusal :=
  unlessLatched s (withViewBytes a s fun xs => withViewBytes b s fun ys => answer (.order (compareBytes xs ys)) s)

/-- R207: `HASH_FN` of the bytes. -/
def execViewHash (v : View) (s : State) : Outcome State Fault Refusal :=
  unlessLatched s (withViewBytes v s fun bs => answer (.hash (hashFn bs)) s)

end Sys2Proof.Machine
end

