-- ==== Sys2Proof/Machine/ViewWrite.lean ====
section
/-! DEFINITION. The eight typed writes (41_view.md R195 to R203): ViewReadOnly is tested before ViewBounds
(60_exceptions.md R260), and a write that faults writes nothing. -/

namespace Sys2Proof.Machine

open Host

/-- R195: what the typed writes of `w` bytes share; `pattern` is the `8w`-bit pattern of the value. -/
def typedWrite (w : Nat) (v : View) (off pattern : Nat) (s : State) : Outcome State Fault Refusal :=
  unlessLatched s
    (withView v s
      (if v.mutBit then
        withAccess v off w s fun addr => answer .done { s with mem := s.mem.write addr w pattern }
       else takeFault .viewReadOnly s))

/-- `v mod 2^N` for a signed value (R200 to R203): its two's complement pattern. -/
def signedPattern {n : Nat} (x : BitVec n) : Nat := (x.toInt % (2 ^ n : Int)).toNat

/-- R196. -/
def execViewWriteU8 (v : View) (off : Nat) (x : BitVec 8) (s : State) : Outcome State Fault Refusal :=
  typedWrite 1 v off x.toNat s

/-- R197. -/
def execViewWriteU16 (v : View) (off : Nat) (x : BitVec 16) (s : State) : Outcome State Fault Refusal :=
  typedWrite 2 v off x.toNat s

/-- R198. -/
def execViewWriteU32 (v : View) (off : Nat) (x : BitVec 32) (s : State) : Outcome State Fault Refusal :=
  typedWrite 4 v off x.toNat s

/-- R199. -/
def execViewWriteU64 (v : View) (off : Nat) (x : BitVec 64) (s : State) : Outcome State Fault Refusal :=
  typedWrite 8 v off x.toNat s

/-- R200. -/
def execViewWriteI8 (v : View) (off : Nat) (x : BitVec 8) (s : State) : Outcome State Fault Refusal :=
  typedWrite 1 v off (signedPattern x) s

/-- R201. -/
def execViewWriteI16 (v : View) (off : Nat) (x : BitVec 16) (s : State) : Outcome State Fault Refusal :=
  typedWrite 2 v off (signedPattern x) s

/-- R202. -/
def execViewWriteI32 (v : View) (off : Nat) (x : BitVec 32) (s : State) : Outcome State Fault Refusal :=
  typedWrite 4 v off (signedPattern x) s

/-- R203. -/
def execViewWriteI64 (v : View) (off : Nat) (x : BitVec 64) (s : State) : Outcome State Fault Refusal :=
  typedWrite 8 v off (signedPattern x) s

end Sys2Proof.Machine
end

