-- ==== Sys2Proof/Machine/Dispatch.lean ====
section
/-! DEFINITION. The meaning of every instruction: one arm per constructor of Instr, each one direct call. -/

namespace Sys2Proof.Machine

open Host

def exec (i : Instr) (s : State) : Host.Outcome State Fault Refusal :=
  match i with
  | .reset => Sys2Proof.Machine.execReset s
  | .decodeBreakdown base len => Sys2Proof.Machine.execDecodeBreakdown base len s
  | .decodeLen base len => Sys2Proof.Machine.execDecodeLen base len s
  | .iterStart base len va0 mutBit => Sys2Proof.Machine.execIterStart base len va0 mutBit s
  | .iterNext => Sys2Proof.Machine.execIterNext s
  | .iterSkip k => Sys2Proof.Machine.execIterSkip k s
  | .viewLen v => Sys2Proof.Machine.execViewLen v s
  | .viewBytes v => Sys2Proof.Machine.execViewBytes v s
  | .viewReadU8 v off => Sys2Proof.Machine.execViewReadU8 v off s
  | .viewReadU16 v off => Sys2Proof.Machine.execViewReadU16 v off s
  | .viewReadU32 v off => Sys2Proof.Machine.execViewReadU32 v off s
  | .viewReadU64 v off => Sys2Proof.Machine.execViewReadU64 v off s
  | .viewReadI8 v off => Sys2Proof.Machine.execViewReadI8 v off s
  | .viewReadI16 v off => Sys2Proof.Machine.execViewReadI16 v off s
  | .viewReadI32 v off => Sys2Proof.Machine.execViewReadI32 v off s
  | .viewReadI64 v off => Sys2Proof.Machine.execViewReadI64 v off s
  | .viewWriteU8 v off x => Sys2Proof.Machine.execViewWriteU8 v off x s
  | .viewWriteU16 v off x => Sys2Proof.Machine.execViewWriteU16 v off x s
  | .viewWriteU32 v off x => Sys2Proof.Machine.execViewWriteU32 v off x s
  | .viewWriteU64 v off x => Sys2Proof.Machine.execViewWriteU64 v off x s
  | .viewWriteI8 v off x => Sys2Proof.Machine.execViewWriteI8 v off x s
  | .viewWriteI16 v off x => Sys2Proof.Machine.execViewWriteI16 v off x s
  | .viewWriteI32 v off x => Sys2Proof.Machine.execViewWriteI32 v off x s
  | .viewWriteI64 v off x => Sys2Proof.Machine.execViewWriteI64 v off x s
  | .viewEq a b => Sys2Proof.Machine.execViewEq a b s
  | .viewCmp a b => Sys2Proof.Machine.execViewCmp a b s
  | .viewHash v => Sys2Proof.Machine.execViewHash v s
  | .b1_00_03 sel => Sys2Proof.Machine.execB1_00_03 sel s
  | .b1_04 => Sys2Proof.Machine.execB1_04 s
  | .b1_05 => Sys2Proof.Machine.execB1_05 s
  | .b1_06_07 sel => Sys2Proof.Machine.execB1_06_07 sel s
  | .b1_08_0B sel => Sys2Proof.Machine.execB1_08_0B sel s
  | .b1_0C => Sys2Proof.Machine.execB1_0C s
  | .b1_0D => Sys2Proof.Machine.execB1_0D s
  | .b1_0E => Sys2Proof.Machine.execB1_0E s
  | .b1_0F => Sys2Proof.Machine.execB1_0F s
  | .b1_10_13 sel => Sys2Proof.Machine.execB1_10_13 sel s
  | .b1_14 => Sys2Proof.Machine.execB1_14 s
  | .b1_15 => Sys2Proof.Machine.execB1_15 s
  | .b1_16_17 sel => Sys2Proof.Machine.execB1_16_17 sel s
  | .b1_18_1B sel => Sys2Proof.Machine.execB1_18_1B sel s
  | .b1_1C => Sys2Proof.Machine.execB1_1C s
  | .b1_1D => Sys2Proof.Machine.execB1_1D s
  | .b1_1E_1F sel => Sys2Proof.Machine.execB1_1E_1F sel s
  | .b1_20_23 sel => Sys2Proof.Machine.execB1_20_23 sel s
  | .b1_24 => Sys2Proof.Machine.execB1_24 s
  | .b1_25 => Sys2Proof.Machine.execB1_25 s
  | .b1_26 => Sys2Proof.Machine.execB1_26 s
  | .b1_27 => Sys2Proof.Machine.execB1_27 s
  | .b1_28_2B sel => Sys2Proof.Machine.execB1_28_2B sel s
  | .b1_2C => Sys2Proof.Machine.execB1_2C s
  | .b1_2D => Sys2Proof.Machine.execB1_2D s
  | .b1_2E => Sys2Proof.Machine.execB1_2E s
  | .b1_2F => Sys2Proof.Machine.execB1_2F s
  | .b1_30_33 sel => Sys2Proof.Machine.execB1_30_33 sel s
  | .b1_34 => Sys2Proof.Machine.execB1_34 s
  | .b1_35 => Sys2Proof.Machine.execB1_35 s
  | .b1_36 => Sys2Proof.Machine.execB1_36 s
  | .b1_37 => Sys2Proof.Machine.execB1_37 s
  | .b1_38_3B sel => Sys2Proof.Machine.execB1_38_3B sel s
  | .b1_3C => Sys2Proof.Machine.execB1_3C s
  | .b1_3D => Sys2Proof.Machine.execB1_3D s
  | .b1_3E => Sys2Proof.Machine.execB1_3E s
  | .b1_3F => Sys2Proof.Machine.execB1_3F s
  | .b1_40_5F sel => Sys2Proof.Machine.execB1_40_5F sel s
  | .b1_60_61 sel => Sys2Proof.Machine.execB1_60_61 sel s
  | .b1_62_63 sel => Sys2Proof.Machine.execB1_62_63 sel s
  | .b1_64_67 sel => Sys2Proof.Machine.execB1_64_67 sel s
  | .b1_68 => Sys2Proof.Machine.execB1_68 s
  | .b1_69 => Sys2Proof.Machine.execB1_69 s
  | .b1_6A => Sys2Proof.Machine.execB1_6A s
  | .b1_6B => Sys2Proof.Machine.execB1_6B s
  | .b1_6C_6F sel => Sys2Proof.Machine.execB1_6C_6F sel s
  | .b1_70_7F sel => Sys2Proof.Machine.execB1_70_7F sel s
  | .b1_80 => Sys2Proof.Machine.execB1_80 s
  | .b1_81 => Sys2Proof.Machine.execB1_81 s
  | .b1_82_83 sel => Sys2Proof.Machine.execB1_82_83 sel s
  | .b1_84_87 sel => Sys2Proof.Machine.execB1_84_87 sel s
  | .b1_88_8F sel => Sys2Proof.Machine.execB1_88_8F sel s
  | .b1_90_97 sel => Sys2Proof.Machine.execB1_90_97 sel s
  | .b1_98_99 sel => Sys2Proof.Machine.execB1_98_99 sel s
  | .b1_9A => Sys2Proof.Machine.execB1_9A s
  | .b1_9B => Sys2Proof.Machine.execB1_9B s
  | .b1_9C_9F sel => Sys2Proof.Machine.execB1_9C_9F sel s
  | .b1_A0_A3 sel => Sys2Proof.Machine.execB1_A0_A3 sel s
  | .b1_A4_A7 sel => Sys2Proof.Machine.execB1_A4_A7 sel s
  | .b1_A8 => Sys2Proof.Machine.execB1_A8 s
  | .b1_A9 => Sys2Proof.Machine.execB1_A9 s
  | .b1_AA_AB sel => Sys2Proof.Machine.execB1_AA_AB sel s
  | .b1_AC_AF sel => Sys2Proof.Machine.execB1_AC_AF sel s
  | .b1_B0_B7 sel => Sys2Proof.Machine.execB1_B0_B7 sel s
  | .b1_B8_BF sel => Sys2Proof.Machine.execB1_B8_BF sel s
  | .b1_C0_C1 sel => Sys2Proof.Machine.execB1_C0_C1 sel s
  | .b1_C2 => Sys2Proof.Machine.execB1_C2 s
  | .b1_C3 => Sys2Proof.Machine.execB1_C3 s
  | .b1_C4_C5 sel => Sys2Proof.Machine.execB1_C4_C5 sel s
  | .b1_C6 => Sys2Proof.Machine.execB1_C6 s
  | .b1_C7 => Sys2Proof.Machine.execB1_C7 s
  | .b1_C8 => Sys2Proof.Machine.execB1_C8 s
  | .b1_C9 => Sys2Proof.Machine.execB1_C9 s
  | .b1_CA => Sys2Proof.Machine.execB1_CA s
  | .b1_CB => Sys2Proof.Machine.execB1_CB s
  | .b1_CC => Sys2Proof.Machine.execB1_CC s
  | .b1_CD => Sys2Proof.Machine.execB1_CD s
  | .b1_CE_CF sel => Sys2Proof.Machine.execB1_CE_CF sel s
  | .b1_D0_D3 sel => Sys2Proof.Machine.execB1_D0_D3 sel s
  | .b1_D4_D5 sel => Sys2Proof.Machine.execB1_D4_D5 sel s
  | .b1_D6_D7 sel => Sys2Proof.Machine.execB1_D6_D7 sel s
  | .b1_D8_DF sel => Sys2Proof.Machine.execB1_D8_DF sel s
  | .b1_E0_E7 sel => Sys2Proof.Machine.execB1_E0_E7 sel s
  | .b1_E8_E9 sel => Sys2Proof.Machine.execB1_E8_E9 sel s
  | .b1_EA => Sys2Proof.Machine.execB1_EA s
  | .b1_EB => Sys2Proof.Machine.execB1_EB s
  | .b1_EC_EF sel => Sys2Proof.Machine.execB1_EC_EF sel s
  | .b1_F0 => Sys2Proof.Machine.execB1_F0 s
  | .b1_F1 => Sys2Proof.Machine.execB1_F1 s
  | .b1_F2_F3 sel => Sys2Proof.Machine.execB1_F2_F3 sel s
  | .b1_F4_F5 sel => Sys2Proof.Machine.execB1_F4_F5 sel s
  | .b1_F6 => Sys2Proof.Machine.execB1_F6 s
  | .b1_F7 => Sys2Proof.Machine.execB1_F7 s
  | .b1_F8_FB sel => Sys2Proof.Machine.execB1_F8_FB sel s
  | .b1_FC_FD sel => Sys2Proof.Machine.execB1_FC_FD sel s
  | .b1_FE_FF sel => Sys2Proof.Machine.execB1_FE_FF sel s
  | .rex_40_4F sel => Sys2Proof.Machine.execRex_40_4F sel s
  | .b2_0F_00_03 sel => Sys2Proof.Machine.execB2_0F_00_03 sel s
  | .b2_0F_04 => Sys2Proof.Machine.execB2_0F_04 s
  | .b2_0F_05 => Sys2Proof.Machine.execB2_0F_05 s
  | .b2_0F_06_07 sel => Sys2Proof.Machine.execB2_0F_06_07 sel s
  | .b2_0F_08_09 sel => Sys2Proof.Machine.execB2_0F_08_09 sel s
  | .b2_0F_0A => Sys2Proof.Machine.execB2_0F_0A s
  | .b2_0F_0B => Sys2Proof.Machine.execB2_0F_0B s
  | .b2_0F_0C => Sys2Proof.Machine.execB2_0F_0C s
  | .b2_0F_0D => Sys2Proof.Machine.execB2_0F_0D s
  | .b2_0F_0E => Sys2Proof.Machine.execB2_0F_0E s
  | .b2_0F_0F => Sys2Proof.Machine.execB2_0F_0F s
  | .b2_0F_10_1F sel => Sys2Proof.Machine.execB2_0F_10_1F sel s
  | .b2_0F_20_23 sel => Sys2Proof.Machine.execB2_0F_20_23 sel s
  | .b2_0F_24_27 sel => Sys2Proof.Machine.execB2_0F_24_27 sel s
  | .b2_0F_28_2F sel => Sys2Proof.Machine.execB2_0F_28_2F sel s
  | .b2_0F_30_33 sel => Sys2Proof.Machine.execB2_0F_30_33 sel s
  | .b2_0F_34_35 sel => Sys2Proof.Machine.execB2_0F_34_35 sel s
  | .b2_0F_36 => Sys2Proof.Machine.execB2_0F_36 s
  | .b2_0F_37 => Sys2Proof.Machine.execB2_0F_37 s
  | .b2_0F_38 => Sys2Proof.Machine.execB2_0F_38 s
  | .b2_0F_39 => Sys2Proof.Machine.execB2_0F_39 s
  | .b2_0F_3A => Sys2Proof.Machine.execB2_0F_3A s
  | .b2_0F_3B => Sys2Proof.Machine.execB2_0F_3B s
  | .b2_0F_3C_3F sel => Sys2Proof.Machine.execB2_0F_3C_3F sel s
  | .b2_0F_40_5F sel => Sys2Proof.Machine.execB2_0F_40_5F sel s
  | .b2_0F_60_6F sel => Sys2Proof.Machine.execB2_0F_60_6F sel s
  | .b2_0F_70_73 sel => Sys2Proof.Machine.execB2_0F_70_73 sel s
  | .b2_0F_74_75 sel => Sys2Proof.Machine.execB2_0F_74_75 sel s
  | .b2_0F_76 => Sys2Proof.Machine.execB2_0F_76 s
  | .b2_0F_77 => Sys2Proof.Machine.execB2_0F_77 s
  | .b2_0F_78_79 sel => Sys2Proof.Machine.execB2_0F_78_79 sel s
  | .b2_0F_7A_7B sel => Sys2Proof.Machine.execB2_0F_7A_7B sel s
  | .b2_0F_7C_7F sel => Sys2Proof.Machine.execB2_0F_7C_7F sel s
  | .b2_0F_80_8F sel => Sys2Proof.Machine.execB2_0F_80_8F sel s
  | .b2_0F_90_9F sel => Sys2Proof.Machine.execB2_0F_90_9F sel s
  | .b2_0F_A0_A1 sel => Sys2Proof.Machine.execB2_0F_A0_A1 sel s
  | .b2_0F_A2 => Sys2Proof.Machine.execB2_0F_A2 s
  | .b2_0F_A3 => Sys2Proof.Machine.execB2_0F_A3 s
  | .b2_0F_A4 => Sys2Proof.Machine.execB2_0F_A4 s
  | .b2_0F_A5 => Sys2Proof.Machine.execB2_0F_A5 s
  | .b2_0F_A6_A7 sel => Sys2Proof.Machine.execB2_0F_A6_A7 sel s
  | .b2_0F_A8_A9 sel => Sys2Proof.Machine.execB2_0F_A8_A9 sel s
  | .b2_0F_AA => Sys2Proof.Machine.execB2_0F_AA s
  | .b2_0F_AB => Sys2Proof.Machine.execB2_0F_AB s
  | .b2_0F_AC => Sys2Proof.Machine.execB2_0F_AC s
  | .b2_0F_AD => Sys2Proof.Machine.execB2_0F_AD s
  | .b2_0F_AE_AF sel => Sys2Proof.Machine.execB2_0F_AE_AF sel s
  | .b2_0F_B0_B7 sel => Sys2Proof.Machine.execB2_0F_B0_B7 sel s
  | .b2_0F_B8_B9 sel => Sys2Proof.Machine.execB2_0F_B8_B9 sel s
  | .b2_0F_BA => Sys2Proof.Machine.execB2_0F_BA s
  | .b2_0F_BB => Sys2Proof.Machine.execB2_0F_BB s
  | .b2_0F_BC_BF sel => Sys2Proof.Machine.execB2_0F_BC_BF sel s
  | .b2_0F_C0_C1 sel => Sys2Proof.Machine.execB2_0F_C0_C1 sel s
  | .b2_0F_C2 => Sys2Proof.Machine.execB2_0F_C2 s
  | .b2_0F_C3 => Sys2Proof.Machine.execB2_0F_C3 s
  | .b2_0F_C4_C5 sel => Sys2Proof.Machine.execB2_0F_C4_C5 sel s
  | .b2_0F_C6 => Sys2Proof.Machine.execB2_0F_C6 s
  | .b2_0F_C7 => Sys2Proof.Machine.execB2_0F_C7 s
  | .b2_0F_C8_CF sel => Sys2Proof.Machine.execB2_0F_C8_CF sel s
  | .b2_0F_D0_DF sel => Sys2Proof.Machine.execB2_0F_D0_DF sel s
  | .b2_0F_E0_EF sel => Sys2Proof.Machine.execB2_0F_E0_EF sel s
  | .b2_0F_F0_F7 sel => Sys2Proof.Machine.execB2_0F_F0_F7 sel s
  | .b2_0F_F8_FB sel => Sys2Proof.Machine.execB2_0F_F8_FB sel s
  | .b2_0F_FC_FD sel => Sys2Proof.Machine.execB2_0F_FC_FD sel s
  | .b2_0F_FE => Sys2Proof.Machine.execB2_0F_FE s
  | .b2_0F_FF => Sys2Proof.Machine.execB2_0F_FF s
  | .b3_0F38_00_07 sel => Sys2Proof.Machine.execB3_0F38_00_07 sel s
  | .b3_0F38_08_0B sel => Sys2Proof.Machine.execB3_0F38_08_0B sel s
  | .b3_0F38_0C_0F sel => Sys2Proof.Machine.execB3_0F38_0C_0F sel s
  | .b3_0F38_10 => Sys2Proof.Machine.execB3_0F38_10 s
  | .b3_0F38_11 => Sys2Proof.Machine.execB3_0F38_11 s
  | .b3_0F38_12_13 sel => Sys2Proof.Machine.execB3_0F38_12_13 sel s
  | .b3_0F38_14_15 sel => Sys2Proof.Machine.execB3_0F38_14_15 sel s
  | .b3_0F38_16 => Sys2Proof.Machine.execB3_0F38_16 s
  | .b3_0F38_17 => Sys2Proof.Machine.execB3_0F38_17 s
  | .b3_0F38_18_1B sel => Sys2Proof.Machine.execB3_0F38_18_1B sel s
  | .b3_0F38_1C_1D sel => Sys2Proof.Machine.execB3_0F38_1C_1D sel s
  | .b3_0F38_1E => Sys2Proof.Machine.execB3_0F38_1E s
  | .b3_0F38_1F => Sys2Proof.Machine.execB3_0F38_1F s
  | .b3_0F38_20_23 sel => Sys2Proof.Machine.execB3_0F38_20_23 sel s
  | .b3_0F38_24_25 sel => Sys2Proof.Machine.execB3_0F38_24_25 sel s
  | .b3_0F38_26_27 sel => Sys2Proof.Machine.execB3_0F38_26_27 sel s
  | .b3_0F38_28_2B sel => Sys2Proof.Machine.execB3_0F38_28_2B sel s
  | .b3_0F38_2C_2F sel => Sys2Proof.Machine.execB3_0F38_2C_2F sel s
  | .b3_0F38_30_33 sel => Sys2Proof.Machine.execB3_0F38_30_33 sel s
  | .b3_0F38_34_35 sel => Sys2Proof.Machine.execB3_0F38_34_35 sel s
  | .b3_0F38_36 => Sys2Proof.Machine.execB3_0F38_36 s
  | .b3_0F38_37 => Sys2Proof.Machine.execB3_0F38_37 s
  | .b3_0F38_38_3F sel => Sys2Proof.Machine.execB3_0F38_38_3F sel s
  | .b3_0F38_40_41 sel => Sys2Proof.Machine.execB3_0F38_40_41 sel s
  | .b3_0F38_42_43 sel => Sys2Proof.Machine.execB3_0F38_42_43 sel s
  | .b3_0F38_44_47 sel => Sys2Proof.Machine.execB3_0F38_44_47 sel s
  | .b3_0F38_48_4F sel => Sys2Proof.Machine.execB3_0F38_48_4F sel s
  | .b3_0F38_50_5F sel => Sys2Proof.Machine.execB3_0F38_50_5F sel s
  | .b3_0F38_60_7F sel => Sys2Proof.Machine.execB3_0F38_60_7F sel s
  | .b3_0F38_80_81 sel => Sys2Proof.Machine.execB3_0F38_80_81 sel s
  | .b3_0F38_82 => Sys2Proof.Machine.execB3_0F38_82 s
  | .b3_0F38_83 => Sys2Proof.Machine.execB3_0F38_83 s
  | .b3_0F38_84_87 sel => Sys2Proof.Machine.execB3_0F38_84_87 sel s
  | .b3_0F38_88_8F sel => Sys2Proof.Machine.execB3_0F38_88_8F sel s
  | .b3_0F38_90_9F sel => Sys2Proof.Machine.execB3_0F38_90_9F sel s
  | .b3_0F38_A0_BF sel => Sys2Proof.Machine.execB3_0F38_A0_BF sel s
  | .b3_0F38_C0_C7 sel => Sys2Proof.Machine.execB3_0F38_C0_C7 sel s
  | .b3_0F38_C8_CB sel => Sys2Proof.Machine.execB3_0F38_C8_CB sel s
  | .b3_0F38_CC_CD sel => Sys2Proof.Machine.execB3_0F38_CC_CD sel s
  | .b3_0F38_CE_CF sel => Sys2Proof.Machine.execB3_0F38_CE_CF sel s
  | .b3_0F38_D0_D7 sel => Sys2Proof.Machine.execB3_0F38_D0_D7 sel s
  | .b3_0F38_D8_D9 sel => Sys2Proof.Machine.execB3_0F38_D8_D9 sel s
  | .b3_0F38_DA => Sys2Proof.Machine.execB3_0F38_DA s
  | .b3_0F38_DB => Sys2Proof.Machine.execB3_0F38_DB s
  | .b3_0F38_DC_DF sel => Sys2Proof.Machine.execB3_0F38_DC_DF sel s
  | .b3_0F38_E0_EF sel => Sys2Proof.Machine.execB3_0F38_E0_EF sel s
  | .b3_0F38_F0_F1 sel => Sys2Proof.Machine.execB3_0F38_F0_F1 sel s
  | .b3_0F38_F2_F3 sel => Sys2Proof.Machine.execB3_0F38_F2_F3 sel s
  | .b3_0F38_F4_F5 sel => Sys2Proof.Machine.execB3_0F38_F4_F5 sel s
  | .b3_0F38_F6 => Sys2Proof.Machine.execB3_0F38_F6 s
  | .b3_0F38_F7 => Sys2Proof.Machine.execB3_0F38_F7 s
  | .b3_0F38_F8_FF sel => Sys2Proof.Machine.execB3_0F38_F8_FF sel s
  | .b3_0F3A_00_07 sel => Sys2Proof.Machine.execB3_0F3A_00_07 sel s
  | .b3_0F3A_08_0F sel => Sys2Proof.Machine.execB3_0F3A_08_0F sel s
  | .b3_0F3A_10_13 sel => Sys2Proof.Machine.execB3_0F3A_10_13 sel s
  | .b3_0F3A_14_17 sel => Sys2Proof.Machine.execB3_0F3A_14_17 sel s
  | .b3_0F3A_18_1F sel => Sys2Proof.Machine.execB3_0F3A_18_1F sel s
  | .b3_0F3A_20_21 sel => Sys2Proof.Machine.execB3_0F3A_20_21 sel s
  | .b3_0F3A_22 => Sys2Proof.Machine.execB3_0F3A_22 s
  | .b3_0F3A_23 => Sys2Proof.Machine.execB3_0F3A_23 s
  | .b3_0F3A_24_27 sel => Sys2Proof.Machine.execB3_0F3A_24_27 sel s
  | .b3_0F3A_28_2F sel => Sys2Proof.Machine.execB3_0F3A_28_2F sel s
  | .b3_0F3A_30_3F sel => Sys2Proof.Machine.execB3_0F3A_30_3F sel s
  | .b3_0F3A_40_41 sel => Sys2Proof.Machine.execB3_0F3A_40_41 sel s
  | .b3_0F3A_42 => Sys2Proof.Machine.execB3_0F3A_42 s
  | .b3_0F3A_43 => Sys2Proof.Machine.execB3_0F3A_43 s
  | .b3_0F3A_44 => Sys2Proof.Machine.execB3_0F3A_44 s
  | .b3_0F3A_45 => Sys2Proof.Machine.execB3_0F3A_45 s
  | .b3_0F3A_46_47 sel => Sys2Proof.Machine.execB3_0F3A_46_47 sel s
  | .b3_0F3A_48_4F sel => Sys2Proof.Machine.execB3_0F3A_48_4F sel s
  | .b3_0F3A_50_5F sel => Sys2Proof.Machine.execB3_0F3A_50_5F sel s
  | .b3_0F3A_60_63 sel => Sys2Proof.Machine.execB3_0F3A_60_63 sel s
  | .b3_0F3A_64_67 sel => Sys2Proof.Machine.execB3_0F3A_64_67 sel s
  | .b3_0F3A_68_6F sel => Sys2Proof.Machine.execB3_0F3A_68_6F sel s
  | .b3_0F3A_70_7F sel => Sys2Proof.Machine.execB3_0F3A_70_7F sel s
  | .b3_0F3A_80_BF sel => Sys2Proof.Machine.execB3_0F3A_80_BF sel s
  | .b3_0F3A_C0_C7 sel => Sys2Proof.Machine.execB3_0F3A_C0_C7 sel s
  | .b3_0F3A_C8_CB sel => Sys2Proof.Machine.execB3_0F3A_C8_CB sel s
  | .b3_0F3A_CC => Sys2Proof.Machine.execB3_0F3A_CC s
  | .b3_0F3A_CD => Sys2Proof.Machine.execB3_0F3A_CD s
  | .b3_0F3A_CE_CF sel => Sys2Proof.Machine.execB3_0F3A_CE_CF sel s
  | .b3_0F3A_D0_D7 sel => Sys2Proof.Machine.execB3_0F3A_D0_D7 sel s
  | .b3_0F3A_D8_DB sel => Sys2Proof.Machine.execB3_0F3A_D8_DB sel s
  | .b3_0F3A_DC_DD sel => Sys2Proof.Machine.execB3_0F3A_DC_DD sel s
  | .b3_0F3A_DE => Sys2Proof.Machine.execB3_0F3A_DE s
  | .b3_0F3A_DF => Sys2Proof.Machine.execB3_0F3A_DF s
  | .b3_0F3A_E0_FF sel => Sys2Proof.Machine.execB3_0F3A_E0_FF sel s

end Sys2Proof.Machine
end

