-- ==== Sys2Proof/Machine/Fetch.lean ====
section
/-! DEFINITION. Where the next instruction comes from: the host's next message (00_scope.md R5, R126), and, for a pull that
runs the engine, the x86 instruction at CUR (42_iterator.md R225). -/

namespace Sys2Proof.Machine

open Host

/-- Whether a pull runs the engine now: not refused (R264), not exhausted (R226), and its slice inside the buffer. -/
def pullRuns (s : State) : Bool :=
  !s.fault && !(s.cfg.exhLatch && s.exh) && s.mem.holds s.cur (s.endIdx - s.cur)

/-- The instruction that a command runs. An ITER_NEXT that runs the engine meets the x86 instruction at CUR: its byte-class
row. With no byte left it is ITER_NEXT itself. (Both have the same effect: assumption log 11.) -/
def resolve (i : Instr) (s : State) : Instr :=
  match i with
  | .iterNext =>
    if pullRuns s then
      match decodeText s.cfg.arch (s.mem.slice s.cur (s.endIdx - s.cur)) with
      | .ok row => row
      | .error _ => .iterNext
    else .iterNext
  | i => i

/-- The host writes a byte of its buffer between two commands (R291). -/
def hostWrite (a : Nat) (b : Byte) (s : State) : Outcome State Fault Refusal :=
  if s.mem.holds a 1 then .next { s with mem := s.mem.setByte a b } else .refused (.hostWriteOutside a)

/-- The view operands of a command. -/
def viewOperands : Instr → List View
  | .viewLen v => [v]
  | .viewBytes v => [v]
  | .viewHash v => [v]
  | .viewEq a b => [a, b]
  | .viewCmp a b => [a, b]
  | .viewReadU8 v _ => [v]
  | .viewReadU16 v _ => [v]
  | .viewReadU32 v _ => [v]
  | .viewReadU64 v _ => [v]
  | .viewReadI8 v _ => [v]
  | .viewReadI16 v _ => [v]
  | .viewReadI32 v _ => [v]
  | .viewReadI64 v _ => [v]
  | .viewWriteU8 v _ _ => [v]
  | .viewWriteU16 v _ _ => [v]
  | .viewWriteU32 v _ _ => [v]
  | .viewWriteU64 v _ _ => [v]
  | .viewWriteI8 v _ _ => [v]
  | .viewWriteI16 v _ _ => [v]
  | .viewWriteI32 v _ _ => [v]
  | .viewWriteI64 v _ _ => [v]
  | _ => []

/-- The host issues a command next. It can only name views it holds (R181), so it holds the command's view operands
(assumption log 10). -/
def issueCommand (i : Instr) (s : State) : State :=
  { s with host := .command (encode i) :: s.host, views := viewOperands i ++ s.views }

/-- The text stands at CUR, bounds the binding, and the host pulls next (assumption log 10). -/
def placeText (text : List Byte) (s : State) : State :=
  { s with
    host := .command (encode .iterNext) :: s.host
    mem := { s.mem with size := max s.mem.size (s.cur + text.length) }.setBytes s.cur text
    endIdx := s.cur + text.length
    exh := false }

/-- The word of an opcode-table row where the next step fetches it. -/
def placeWord (nbits w : Nat) (s : State) : State :=
  if isCommandWord nbits w then
    match decodeTableWord nbits w with
    | some i => issueCommand i s
    | none => s
  else placeText (tableText nbits w) s

end Sys2Proof.Machine
end

