-- ==== Sys2Proof/Machine/Step.lean ====
section
/-! DEFINITION. One step: the host's next action. A command is performed as one atomic step (10_state.md R20; 00_scope.md
R5), a host write is one step (R291), and with nothing pending the block is idle and keeps its state (60_exceptions.md
R271). -/

namespace Sys2Proof.Machine

open Host

/-- A command message is decoded and run, by an instance whose tables the spec admits (R7, R105, R106). -/
def runMessage (message : List Byte) (s : State) : Outcome State Fault Refusal :=
  if instanceAccepted s.cfg then
    match decodeMessage message with
    | .ok i => exec (resolve i s) s
    | .error e => .refused (.malformedCommand e)
  else .refused .unacceptedInstance

def step (s : State) : Outcome State Fault Refusal :=
  match s.host with
  | [] => .next s
  | .write a b :: rest => hostWrite a b { s with host := rest }
  | .command message :: rest => runMessage message { s with host := rest }

/-- `s` with a word of the opcode table stored where `step` fetches its next instruction (assumption log 10). -/
def State.withFetchWord (s : State) (nbits w : Nat) : State := placeWord nbits w s

end Sys2Proof.Machine
end

