-- ==== Sys2Proof/Machine/Rows.lean ====
section
/-! DEFINITION. The fields of the byte-class rows as spec/opcode_table.json has them (30_encoding.md R128): a copy of the
table, independent of the tables of rules R114 to R122, so that the two can be compared. The row 64 to 67 is entered as
the rules have it (assumption log 12). -/

namespace Sys2Proof.Machine

/-- The immediate of the group pair (R101). -/
inductive PairField where
  | none
  | imm8
  | immDef
deriving DecidableEq, Repr

/-- The fields of a row of the one-byte map (R97 to R101). -/
structure OneFields where
  modrm : Bool := false
  imm8 : Bool := false
  immDef : Bool := false
  immFull : Bool := false
  imm16 : Bool := false
  moffs : Bool := false
  pair : PairField := .none
deriving DecidableEq, Repr

/-- The fields of a row of the two-byte map (R102, R103). -/
structure TwoFields where
  modrm : Bool := false
  imm8 : Bool := false
  immDef : Bool := false
  imm16 : Bool := false
deriving DecidableEq, Repr

/-- The class of a row. -/
inductive RowClass where
  | command
  /-- a legacy prefix (R82) -/
  | legacyPrefix
  /-- a REX prefix of X64 (R83) -/
  | rexPrefix
  /-- the escape 0F (R84) -/
  | escapeTwo
  /-- the escapes 0F 38 and 0F 3A (R84); `imm8` says that the map adds one immediate byte (R90) -/
  | escapeThree (imm8 : Bool)
  /-- invalid in its map (R110, R111) -/
  | invalid
  | one (f : OneFields)
  | two (f : TwoFields)
  /-- valid in a three-byte map (R104); `imm8` as for the escape -/
  | three (imm8 : Bool)
deriving DecidableEq, Repr

/-- The class of the row that a constructor stands for. -/
def rowClass (i : Instr) : RowClass :=
  match i with
  | .reset => .command
  | .decodeBreakdown _ _ => .command
  | .decodeLen _ _ => .command
  | .iterStart _ _ _ _ => .command
  | .iterNext => .command
  | .iterSkip _ => .command
  | .viewLen _ => .command
  | .viewBytes _ => .command
  | .viewReadU8 _ _ => .command
  | .viewReadU16 _ _ => .command
  | .viewReadU32 _ _ => .command
  | .viewReadU64 _ _ => .command
  | .viewReadI8 _ _ => .command
  | .viewReadI16 _ _ => .command
  | .viewReadI32 _ _ => .command
  | .viewReadI64 _ _ => .command
  | .viewWriteU8 _ _ _ => .command
  | .viewWriteU16 _ _ _ => .command
  | .viewWriteU32 _ _ _ => .command
  | .viewWriteU64 _ _ _ => .command
  | .viewWriteI8 _ _ _ => .command
  | .viewWriteI16 _ _ _ => .command
  | .viewWriteI32 _ _ _ => .command
  | .viewWriteI64 _ _ _ => .command
  | .viewEq _ _ => .command
  | .viewCmp _ _ => .command
  | .viewHash _ => .command
  | .b1_00_03 _ => .one { modrm := true }
  | .b1_04 => .one { imm8 := true }
  | .b1_05 => .one { immDef := true }
  | .b1_06_07 _ => .one {}
  | .b1_08_0B _ => .one { modrm := true }
  | .b1_0C => .one { imm8 := true }
  | .b1_0D => .one { immDef := true }
  | .b1_0E => .one {}
  | .b1_0F => .escapeTwo
  | .b1_10_13 _ => .one { modrm := true }
  | .b1_14 => .one { imm8 := true }
  | .b1_15 => .one { immDef := true }
  | .b1_16_17 _ => .one {}
  | .b1_18_1B _ => .one { modrm := true }
  | .b1_1C => .one { imm8 := true }
  | .b1_1D => .one { immDef := true }
  | .b1_1E_1F _ => .one {}
  | .b1_20_23 _ => .one { modrm := true }
  | .b1_24 => .one { imm8 := true }
  | .b1_25 => .one { immDef := true }
  | .b1_26 => .legacyPrefix
  | .b1_27 => .one {}
  | .b1_28_2B _ => .one { modrm := true }
  | .b1_2C => .one { imm8 := true }
  | .b1_2D => .one { immDef := true }
  | .b1_2E => .legacyPrefix
  | .b1_2F => .one {}
  | .b1_30_33 _ => .one { modrm := true }
  | .b1_34 => .one { imm8 := true }
  | .b1_35 => .one { immDef := true }
  | .b1_36 => .legacyPrefix
  | .b1_37 => .one {}
  | .b1_38_3B _ => .one { modrm := true }
  | .b1_3C => .one { imm8 := true }
  | .b1_3D => .one { immDef := true }
  | .b1_3E => .legacyPrefix
  | .b1_3F => .one {}
  | .b1_40_5F _ => .one {}
  | .b1_60_61 _ => .one {}
  | .b1_62_63 _ => .one { modrm := true }
  | .b1_64_67 _ => .legacyPrefix
  | .b1_68 => .one { immDef := true }
  | .b1_69 => .one { modrm := true, immDef := true }
  | .b1_6A => .one { imm8 := true }
  | .b1_6B => .one { modrm := true, imm8 := true }
  | .b1_6C_6F _ => .one {}
  | .b1_70_7F _ => .one { imm8 := true }
  | .b1_80 => .one { modrm := true, imm8 := true }
  | .b1_81 => .one { modrm := true, immDef := true }
  | .b1_82_83 _ => .one { modrm := true, imm8 := true }
  | .b1_84_87 _ => .one { modrm := true }
  | .b1_88_8F _ => .one { modrm := true }
  | .b1_90_97 _ => .one {}
  | .b1_98_99 _ => .one {}
  | .b1_9A => .one { immDef := true, imm16 := true }
  | .b1_9B => .one {}
  | .b1_9C_9F _ => .one {}
  | .b1_A0_A3 _ => .one { moffs := true }
  | .b1_A4_A7 _ => .one {}
  | .b1_A8 => .one { imm8 := true }
  | .b1_A9 => .one { immDef := true }
  | .b1_AA_AB _ => .one {}
  | .b1_AC_AF _ => .one {}
  | .b1_B0_B7 _ => .one { imm8 := true }
  | .b1_B8_BF _ => .one { immFull := true }
  | .b1_C0_C1 _ => .one { modrm := true, imm8 := true }
  | .b1_C2 => .one { imm16 := true }
  | .b1_C3 => .one {}
  | .b1_C4_C5 _ => .one { modrm := true }
  | .b1_C6 => .one { modrm := true, imm8 := true }
  | .b1_C7 => .one { modrm := true, immDef := true }
  | .b1_C8 => .one { imm8 := true, imm16 := true }
  | .b1_C9 => .one {}
  | .b1_CA => .one { imm16 := true }
  | .b1_CB => .one {}
  | .b1_CC => .one {}
  | .b1_CD => .one { imm8 := true }
  | .b1_CE_CF _ => .one {}
  | .b1_D0_D3 _ => .one { modrm := true }
  | .b1_D4_D5 _ => .one { imm8 := true }
  | .b1_D6_D7 _ => .one {}
  | .b1_D8_DF _ => .one { modrm := true }
  | .b1_E0_E7 _ => .one { imm8 := true }
  | .b1_E8_E9 _ => .one { immDef := true }
  | .b1_EA => .one { immDef := true, imm16 := true }
  | .b1_EB => .one { imm8 := true }
  | .b1_EC_EF _ => .one {}
  | .b1_F0 => .legacyPrefix
  | .b1_F1 => .one {}
  | .b1_F2_F3 _ => .legacyPrefix
  | .b1_F4_F5 _ => .one {}
  | .b1_F6 => .one { modrm := true, pair := .imm8 }
  | .b1_F7 => .one { modrm := true, pair := .immDef }
  | .b1_F8_FB _ => .one {}
  | .b1_FC_FD _ => .one {}
  | .b1_FE_FF _ => .one { modrm := true }
  | .rex_40_4F _ => .rexPrefix
  | .b2_0F_00_03 _ => .two { modrm := true }
  | .b2_0F_04 => .invalid
  | .b2_0F_05 => .two {}
  | .b2_0F_06_07 _ => .two {}
  | .b2_0F_08_09 _ => .two {}
  | .b2_0F_0A => .invalid
  | .b2_0F_0B => .two {}
  | .b2_0F_0C => .invalid
  | .b2_0F_0D => .two { modrm := true }
  | .b2_0F_0E => .two {}
  | .b2_0F_0F => .two { modrm := true, imm8 := true }
  | .b2_0F_10_1F _ => .two { modrm := true }
  | .b2_0F_20_23 _ => .two { modrm := true }
  | .b2_0F_24_27 _ => .invalid
  | .b2_0F_28_2F _ => .two { modrm := true }
  | .b2_0F_30_33 _ => .two {}
  | .b2_0F_34_35 _ => .two {}
  | .b2_0F_36 => .invalid
  | .b2_0F_37 => .two {}
  | .b2_0F_38 => .escapeThree false
  | .b2_0F_39 => .invalid
  | .b2_0F_3A => .escapeThree true
  | .b2_0F_3B => .invalid
  | .b2_0F_3C_3F _ => .invalid
  | .b2_0F_40_5F _ => .two { modrm := true }
  | .b2_0F_60_6F _ => .two { modrm := true }
  | .b2_0F_70_73 _ => .two { modrm := true, imm8 := true }
  | .b2_0F_74_75 _ => .two { modrm := true }
  | .b2_0F_76 => .two { modrm := true }
  | .b2_0F_77 => .two {}
  | .b2_0F_78_79 _ => .two { modrm := true }
  | .b2_0F_7A_7B _ => .invalid
  | .b2_0F_7C_7F _ => .two { modrm := true }
  | .b2_0F_80_8F _ => .two { immDef := true }
  | .b2_0F_90_9F _ => .two { modrm := true }
  | .b2_0F_A0_A1 _ => .two {}
  | .b2_0F_A2 => .two {}
  | .b2_0F_A3 => .two { modrm := true }
  | .b2_0F_A4 => .two { modrm := true, imm8 := true }
  | .b2_0F_A5 => .two { modrm := true }
  | .b2_0F_A6_A7 _ => .invalid
  | .b2_0F_A8_A9 _ => .two {}
  | .b2_0F_AA => .two {}
  | .b2_0F_AB => .two { modrm := true }
  | .b2_0F_AC => .two { modrm := true, imm8 := true }
  | .b2_0F_AD => .two { modrm := true }
  | .b2_0F_AE_AF _ => .two { modrm := true }
  | .b2_0F_B0_B7 _ => .two { modrm := true }
  | .b2_0F_B8_B9 _ => .two { modrm := true }
  | .b2_0F_BA => .two { modrm := true, imm8 := true }
  | .b2_0F_BB => .two { modrm := true }
  | .b2_0F_BC_BF _ => .two { modrm := true }
  | .b2_0F_C0_C1 _ => .two { modrm := true }
  | .b2_0F_C2 => .two { modrm := true, imm8 := true }
  | .b2_0F_C3 => .two { modrm := true }
  | .b2_0F_C4_C5 _ => .two { modrm := true, imm8 := true }
  | .b2_0F_C6 => .two { modrm := true, imm8 := true }
  | .b2_0F_C7 => .two { modrm := true }
  | .b2_0F_C8_CF _ => .two {}
  | .b2_0F_D0_DF _ => .two { modrm := true }
  | .b2_0F_E0_EF _ => .two { modrm := true }
  | .b2_0F_F0_F7 _ => .two { modrm := true }
  | .b2_0F_F8_FB _ => .two { modrm := true }
  | .b2_0F_FC_FD _ => .two { modrm := true }
  | .b2_0F_FE => .two { modrm := true }
  | .b2_0F_FF => .invalid
  | .b3_0F38_00_07 _ => .three false
  | .b3_0F38_08_0B _ => .three false
  | .b3_0F38_0C_0F _ => .invalid
  | .b3_0F38_10 => .three false
  | .b3_0F38_11 => .invalid
  | .b3_0F38_12_13 _ => .invalid
  | .b3_0F38_14_15 _ => .three false
  | .b3_0F38_16 => .invalid
  | .b3_0F38_17 => .three false
  | .b3_0F38_18_1B _ => .invalid
  | .b3_0F38_1C_1D _ => .three false
  | .b3_0F38_1E => .three false
  | .b3_0F38_1F => .invalid
  | .b3_0F38_20_23 _ => .three false
  | .b3_0F38_24_25 _ => .three false
  | .b3_0F38_26_27 _ => .invalid
  | .b3_0F38_28_2B _ => .three false
  | .b3_0F38_2C_2F _ => .invalid
  | .b3_0F38_30_33 _ => .three false
  | .b3_0F38_34_35 _ => .three false
  | .b3_0F38_36 => .invalid
  | .b3_0F38_37 => .three false
  | .b3_0F38_38_3F _ => .three false
  | .b3_0F38_40_41 _ => .three false
  | .b3_0F38_42_43 _ => .invalid
  | .b3_0F38_44_47 _ => .invalid
  | .b3_0F38_48_4F _ => .invalid
  | .b3_0F38_50_5F _ => .invalid
  | .b3_0F38_60_7F _ => .invalid
  | .b3_0F38_80_81 _ => .three false
  | .b3_0F38_82 => .three false
  | .b3_0F38_83 => .invalid
  | .b3_0F38_84_87 _ => .invalid
  | .b3_0F38_88_8F _ => .invalid
  | .b3_0F38_90_9F _ => .invalid
  | .b3_0F38_A0_BF _ => .invalid
  | .b3_0F38_C0_C7 _ => .invalid
  | .b3_0F38_C8_CB _ => .three false
  | .b3_0F38_CC_CD _ => .three false
  | .b3_0F38_CE_CF _ => .invalid
  | .b3_0F38_D0_D7 _ => .invalid
  | .b3_0F38_D8_D9 _ => .invalid
  | .b3_0F38_DA => .invalid
  | .b3_0F38_DB => .three false
  | .b3_0F38_DC_DF _ => .three false
  | .b3_0F38_E0_EF _ => .invalid
  | .b3_0F38_F0_F1 _ => .three false
  | .b3_0F38_F2_F3 _ => .invalid
  | .b3_0F38_F4_F5 _ => .invalid
  | .b3_0F38_F6 => .three false
  | .b3_0F38_F7 => .invalid
  | .b3_0F38_F8_FF _ => .invalid
  | .b3_0F3A_00_07 _ => .invalid
  | .b3_0F3A_08_0F _ => .three true
  | .b3_0F3A_10_13 _ => .invalid
  | .b3_0F3A_14_17 _ => .three true
  | .b3_0F3A_18_1F _ => .invalid
  | .b3_0F3A_20_21 _ => .three true
  | .b3_0F3A_22 => .three true
  | .b3_0F3A_23 => .invalid
  | .b3_0F3A_24_27 _ => .invalid
  | .b3_0F3A_28_2F _ => .invalid
  | .b3_0F3A_30_3F _ => .invalid
  | .b3_0F3A_40_41 _ => .three true
  | .b3_0F3A_42 => .three true
  | .b3_0F3A_43 => .invalid
  | .b3_0F3A_44 => .three true
  | .b3_0F3A_45 => .invalid
  | .b3_0F3A_46_47 _ => .invalid
  | .b3_0F3A_48_4F _ => .invalid
  | .b3_0F3A_50_5F _ => .invalid
  | .b3_0F3A_60_63 _ => .three true
  | .b3_0F3A_64_67 _ => .invalid
  | .b3_0F3A_68_6F _ => .invalid
  | .b3_0F3A_70_7F _ => .invalid
  | .b3_0F3A_80_BF _ => .invalid
  | .b3_0F3A_C0_C7 _ => .invalid
  | .b3_0F3A_C8_CB _ => .invalid
  | .b3_0F3A_CC => .three true
  | .b3_0F3A_CD => .invalid
  | .b3_0F3A_CE_CF _ => .invalid
  | .b3_0F3A_D0_D7 _ => .invalid
  | .b3_0F3A_D8_DB _ => .invalid
  | .b3_0F3A_DC_DD _ => .invalid
  | .b3_0F3A_DE => .invalid
  | .b3_0F3A_DF => .three true
  | .b3_0F3A_E0_FF _ => .invalid

/-- A byte's entries in the one-byte tables are the row's fields, and the byte is no legacy prefix (R95, R97 to R101). -/
def oneAgrees (t : Tables) (f : OneFields) (b : Byte) : Bool :=
  !tableHas t.isLegacyPrefix b && tableHas t.op1Modrm b == f.modrm && tableHas t.op1Imm8 b == f.imm8
    && tableHas t.op1ImmDef b == f.immDef && tableHas t.op1ImmFull b == f.immFull && tableHas t.op1Imm16 b == f.imm16
    && tableHas t.op1Moffs b == f.moffs && tableHas t.op1G3Imm8 b == (f.pair == .imm8)
    && tableHas t.op1G3ImmDef b == (f.pair == .immDef)

/-- A byte's entries in the two-byte tables are the row's fields, and the byte is valid (R102, R103). -/
def twoAgrees (t : Tables) (f : TwoFields) (b : Byte) : Bool :=
  !tableHas t.op2Invalid b && tableHas t.op2Modrm b == f.modrm && tableHas t.op2Imm8 b == f.imm8
    && tableHas t.op2ImmDef b == f.immDef && tableHas t.op2Imm16 b == f.imm16

/-- The tables give the opcode bytes of a row the row's class (R128). -/
def rowAgrees (t : Tables) (c : RowClass) (opcode : List Byte) : Bool :=
  match c, opcode with
  | .command, _ => true
  | .legacyPrefix, [b] => tableHas t.isLegacyPrefix b
  | .rexPrefix, [b] => tableHas t.isRex b && !tableHas t.isLegacyPrefix b
  | .escapeTwo, [b] => b == 0x0F#8 && !tableHas t.isLegacyPrefix b && !tableHas t.isRex b
  | .escapeThree imm8, [e, b] =>
    e == 0x0F#8 && b == (if imm8 then 0x3A#8 else 0x38#8) && !tableHas t.op2Invalid b
  | .invalid, [e, b] => e == 0x0F#8 && tableHas t.op2Invalid b
  | .invalid, [e, e2, b] =>
    e == 0x0F#8 && (e2 == 0x38#8 && tableHas t.op38Invalid b || e2 == 0x3A#8 && tableHas t.op3AInvalid b)
  | .one f, [b] => b != 0x0F#8 && oneAgrees t f b
  | .two f, [e, b] => e == 0x0F#8 && b != 0x38#8 && b != 0x3A#8 && twoAgrees t f b
  | .three imm8, [e, e2, b] =>
    e == 0x0F#8 && e2 == (if imm8 then 0x3A#8 else 0x38#8)
      && !tableHas (if imm8 then t.op3AInvalid else t.op38Invalid) b
  | _, _ => false

/-- `match` and `mask` of the row over its first opcode bytes: the byte string that begins with `opcode` belongs to the row
when its bytes AND the mask are the match (R128). -/
def rowMatch (i : Instr) : List (Byte × Byte) :=
  match i with
  | .reset => [(0x00#8, 0xFF#8)]
  | .decodeBreakdown _ _ => [(0x01#8, 0xFF#8)]
  | .decodeLen _ _ => [(0x02#8, 0xFF#8)]
  | .iterStart _ _ _ _ => [(0x03#8, 0xFF#8)]
  | .iterNext => [(0x04#8, 0xFF#8)]
  | .iterSkip _ => [(0x05#8, 0xFF#8)]
  | .viewLen _ => [(0x06#8, 0xFF#8)]
  | .viewBytes _ => [(0x07#8, 0xFF#8)]
  | .viewReadU8 _ _ => [(0x08#8, 0xFF#8)]
  | .viewReadU16 _ _ => [(0x09#8, 0xFF#8)]
  | .viewReadU32 _ _ => [(0x0A#8, 0xFF#8)]
  | .viewReadU64 _ _ => [(0x0B#8, 0xFF#8)]
  | .viewReadI8 _ _ => [(0x0C#8, 0xFF#8)]
  | .viewReadI16 _ _ => [(0x0D#8, 0xFF#8)]
  | .viewReadI32 _ _ => [(0x0E#8, 0xFF#8)]
  | .viewReadI64 _ _ => [(0x0F#8, 0xFF#8)]
  | .viewWriteU8 _ _ _ => [(0x10#8, 0xFF#8)]
  | .viewWriteU16 _ _ _ => [(0x11#8, 0xFF#8)]
  | .viewWriteU32 _ _ _ => [(0x12#8, 0xFF#8)]
  | .viewWriteU64 _ _ _ => [(0x13#8, 0xFF#8)]
  | .viewWriteI8 _ _ _ => [(0x14#8, 0xFF#8)]
  | .viewWriteI16 _ _ _ => [(0x15#8, 0xFF#8)]
  | .viewWriteI32 _ _ _ => [(0x16#8, 0xFF#8)]
  | .viewWriteI64 _ _ _ => [(0x17#8, 0xFF#8)]
  | .viewEq _ _ => [(0x18#8, 0xFF#8)]
  | .viewCmp _ _ => [(0x19#8, 0xFF#8)]
  | .viewHash _ => [(0x1A#8, 0xFF#8)]
  | .b1_00_03 _ => [(0x00#8, 0xFC#8)]
  | .b1_04 => [(0x04#8, 0xFF#8)]
  | .b1_05 => [(0x05#8, 0xFF#8)]
  | .b1_06_07 _ => [(0x06#8, 0xFE#8)]
  | .b1_08_0B _ => [(0x08#8, 0xFC#8)]
  | .b1_0C => [(0x0C#8, 0xFF#8)]
  | .b1_0D => [(0x0D#8, 0xFF#8)]
  | .b1_0E => [(0x0E#8, 0xFF#8)]
  | .b1_0F => [(0x0F#8, 0xFF#8)]
  | .b1_10_13 _ => [(0x10#8, 0xFC#8)]
  | .b1_14 => [(0x14#8, 0xFF#8)]
  | .b1_15 => [(0x15#8, 0xFF#8)]
  | .b1_16_17 _ => [(0x16#8, 0xFE#8)]
  | .b1_18_1B _ => [(0x18#8, 0xFC#8)]
  | .b1_1C => [(0x1C#8, 0xFF#8)]
  | .b1_1D => [(0x1D#8, 0xFF#8)]
  | .b1_1E_1F _ => [(0x1E#8, 0xFE#8)]
  | .b1_20_23 _ => [(0x20#8, 0xFC#8)]
  | .b1_24 => [(0x24#8, 0xFF#8)]
  | .b1_25 => [(0x25#8, 0xFF#8)]
  | .b1_26 => [(0x26#8, 0xFF#8)]
  | .b1_27 => [(0x27#8, 0xFF#8)]
  | .b1_28_2B _ => [(0x28#8, 0xFC#8)]
  | .b1_2C => [(0x2C#8, 0xFF#8)]
  | .b1_2D => [(0x2D#8, 0xFF#8)]
  | .b1_2E => [(0x2E#8, 0xFF#8)]
  | .b1_2F => [(0x2F#8, 0xFF#8)]
  | .b1_30_33 _ => [(0x30#8, 0xFC#8)]
  | .b1_34 => [(0x34#8, 0xFF#8)]
  | .b1_35 => [(0x35#8, 0xFF#8)]
  | .b1_36 => [(0x36#8, 0xFF#8)]
  | .b1_37 => [(0x37#8, 0xFF#8)]
  | .b1_38_3B _ => [(0x38#8, 0xFC#8)]
  | .b1_3C => [(0x3C#8, 0xFF#8)]
  | .b1_3D => [(0x3D#8, 0xFF#8)]
  | .b1_3E => [(0x3E#8, 0xFF#8)]
  | .b1_3F => [(0x3F#8, 0xFF#8)]
  | .b1_40_5F _ => [(0x40#8, 0xE0#8)]
  | .b1_60_61 _ => [(0x60#8, 0xFE#8)]
  | .b1_62_63 _ => [(0x62#8, 0xFE#8)]
  | .b1_64_67 _ => [(0x64#8, 0xFC#8)]
  | .b1_68 => [(0x68#8, 0xFF#8)]
  | .b1_69 => [(0x69#8, 0xFF#8)]
  | .b1_6A => [(0x6A#8, 0xFF#8)]
  | .b1_6B => [(0x6B#8, 0xFF#8)]
  | .b1_6C_6F _ => [(0x6C#8, 0xFC#8)]
  | .b1_70_7F _ => [(0x70#8, 0xF0#8)]
  | .b1_80 => [(0x80#8, 0xFF#8)]
  | .b1_81 => [(0x81#8, 0xFF#8)]
  | .b1_82_83 _ => [(0x82#8, 0xFE#8)]
  | .b1_84_87 _ => [(0x84#8, 0xFC#8)]
  | .b1_88_8F _ => [(0x88#8, 0xF8#8)]
  | .b1_90_97 _ => [(0x90#8, 0xF8#8)]
  | .b1_98_99 _ => [(0x98#8, 0xFE#8)]
  | .b1_9A => [(0x9A#8, 0xFF#8)]
  | .b1_9B => [(0x9B#8, 0xFF#8)]
  | .b1_9C_9F _ => [(0x9C#8, 0xFC#8)]
  | .b1_A0_A3 _ => [(0xA0#8, 0xFC#8)]
  | .b1_A4_A7 _ => [(0xA4#8, 0xFC#8)]
  | .b1_A8 => [(0xA8#8, 0xFF#8)]
  | .b1_A9 => [(0xA9#8, 0xFF#8)]
  | .b1_AA_AB _ => [(0xAA#8, 0xFE#8)]
  | .b1_AC_AF _ => [(0xAC#8, 0xFC#8)]
  | .b1_B0_B7 _ => [(0xB0#8, 0xF8#8)]
  | .b1_B8_BF _ => [(0xB8#8, 0xF8#8)]
  | .b1_C0_C1 _ => [(0xC0#8, 0xFE#8)]
  | .b1_C2 => [(0xC2#8, 0xFF#8)]
  | .b1_C3 => [(0xC3#8, 0xFF#8)]
  | .b1_C4_C5 _ => [(0xC4#8, 0xFE#8)]
  | .b1_C6 => [(0xC6#8, 0xFF#8)]
  | .b1_C7 => [(0xC7#8, 0xFF#8)]
  | .b1_C8 => [(0xC8#8, 0xFF#8)]
  | .b1_C9 => [(0xC9#8, 0xFF#8)]
  | .b1_CA => [(0xCA#8, 0xFF#8)]
  | .b1_CB => [(0xCB#8, 0xFF#8)]
  | .b1_CC => [(0xCC#8, 0xFF#8)]
  | .b1_CD => [(0xCD#8, 0xFF#8)]
  | .b1_CE_CF _ => [(0xCE#8, 0xFE#8)]
  | .b1_D0_D3 _ => [(0xD0#8, 0xFC#8)]
  | .b1_D4_D5 _ => [(0xD4#8, 0xFE#8)]
  | .b1_D6_D7 _ => [(0xD6#8, 0xFE#8)]
  | .b1_D8_DF _ => [(0xD8#8, 0xF8#8)]
  | .b1_E0_E7 _ => [(0xE0#8, 0xF8#8)]
  | .b1_E8_E9 _ => [(0xE8#8, 0xFE#8)]
  | .b1_EA => [(0xEA#8, 0xFF#8)]
  | .b1_EB => [(0xEB#8, 0xFF#8)]
  | .b1_EC_EF _ => [(0xEC#8, 0xFC#8)]
  | .b1_F0 => [(0xF0#8, 0xFF#8)]
  | .b1_F1 => [(0xF1#8, 0xFF#8)]
  | .b1_F2_F3 _ => [(0xF2#8, 0xFE#8)]
  | .b1_F4_F5 _ => [(0xF4#8, 0xFE#8)]
  | .b1_F6 => [(0xF6#8, 0xFF#8)]
  | .b1_F7 => [(0xF7#8, 0xFF#8)]
  | .b1_F8_FB _ => [(0xF8#8, 0xFC#8)]
  | .b1_FC_FD _ => [(0xFC#8, 0xFE#8)]
  | .b1_FE_FF _ => [(0xFE#8, 0xFE#8)]
  | .rex_40_4F _ => [(0x40#8, 0xF0#8)]
  | .b2_0F_00_03 _ => [(0x0F#8, 0xFF#8), (0x00#8, 0xFC#8)]
  | .b2_0F_04 => [(0x0F#8, 0xFF#8), (0x04#8, 0xFF#8)]
  | .b2_0F_05 => [(0x0F#8, 0xFF#8), (0x05#8, 0xFF#8)]
  | .b2_0F_06_07 _ => [(0x0F#8, 0xFF#8), (0x06#8, 0xFE#8)]
  | .b2_0F_08_09 _ => [(0x0F#8, 0xFF#8), (0x08#8, 0xFE#8)]
  | .b2_0F_0A => [(0x0F#8, 0xFF#8), (0x0A#8, 0xFF#8)]
  | .b2_0F_0B => [(0x0F#8, 0xFF#8), (0x0B#8, 0xFF#8)]
  | .b2_0F_0C => [(0x0F#8, 0xFF#8), (0x0C#8, 0xFF#8)]
  | .b2_0F_0D => [(0x0F#8, 0xFF#8), (0x0D#8, 0xFF#8)]
  | .b2_0F_0E => [(0x0F#8, 0xFF#8), (0x0E#8, 0xFF#8)]
  | .b2_0F_0F => [(0x0F#8, 0xFF#8), (0x0F#8, 0xFF#8)]
  | .b2_0F_10_1F _ => [(0x0F#8, 0xFF#8), (0x10#8, 0xF0#8)]
  | .b2_0F_20_23 _ => [(0x0F#8, 0xFF#8), (0x20#8, 0xFC#8)]
  | .b2_0F_24_27 _ => [(0x0F#8, 0xFF#8), (0x24#8, 0xFC#8)]
  | .b2_0F_28_2F _ => [(0x0F#8, 0xFF#8), (0x28#8, 0xF8#8)]
  | .b2_0F_30_33 _ => [(0x0F#8, 0xFF#8), (0x30#8, 0xFC#8)]
  | .b2_0F_34_35 _ => [(0x0F#8, 0xFF#8), (0x34#8, 0xFE#8)]
  | .b2_0F_36 => [(0x0F#8, 0xFF#8), (0x36#8, 0xFF#8)]
  | .b2_0F_37 => [(0x0F#8, 0xFF#8), (0x37#8, 0xFF#8)]
  | .b2_0F_38 => [(0x0F#8, 0xFF#8), (0x38#8, 0xFF#8)]
  | .b2_0F_39 => [(0x0F#8, 0xFF#8), (0x39#8, 0xFF#8)]
  | .b2_0F_3A => [(0x0F#8, 0xFF#8), (0x3A#8, 0xFF#8)]
  | .b2_0F_3B => [(0x0F#8, 0xFF#8), (0x3B#8, 0xFF#8)]
  | .b2_0F_3C_3F _ => [(0x0F#8, 0xFF#8), (0x3C#8, 0xFC#8)]
  | .b2_0F_40_5F _ => [(0x0F#8, 0xFF#8), (0x40#8, 0xE0#8)]
  | .b2_0F_60_6F _ => [(0x0F#8, 0xFF#8), (0x60#8, 0xF0#8)]
  | .b2_0F_70_73 _ => [(0x0F#8, 0xFF#8), (0x70#8, 0xFC#8)]
  | .b2_0F_74_75 _ => [(0x0F#8, 0xFF#8), (0x74#8, 0xFE#8)]
  | .b2_0F_76 => [(0x0F#8, 0xFF#8), (0x76#8, 0xFF#8)]
  | .b2_0F_77 => [(0x0F#8, 0xFF#8), (0x77#8, 0xFF#8)]
  | .b2_0F_78_79 _ => [(0x0F#8, 0xFF#8), (0x78#8, 0xFE#8)]
  | .b2_0F_7A_7B _ => [(0x0F#8, 0xFF#8), (0x7A#8, 0xFE#8)]
  | .b2_0F_7C_7F _ => [(0x0F#8, 0xFF#8), (0x7C#8, 0xFC#8)]
  | .b2_0F_80_8F _ => [(0x0F#8, 0xFF#8), (0x80#8, 0xF0#8)]
  | .b2_0F_90_9F _ => [(0x0F#8, 0xFF#8), (0x90#8, 0xF0#8)]
  | .b2_0F_A0_A1 _ => [(0x0F#8, 0xFF#8), (0xA0#8, 0xFE#8)]
  | .b2_0F_A2 => [(0x0F#8, 0xFF#8), (0xA2#8, 0xFF#8)]
  | .b2_0F_A3 => [(0x0F#8, 0xFF#8), (0xA3#8, 0xFF#8)]
  | .b2_0F_A4 => [(0x0F#8, 0xFF#8), (0xA4#8, 0xFF#8)]
  | .b2_0F_A5 => [(0x0F#8, 0xFF#8), (0xA5#8, 0xFF#8)]
  | .b2_0F_A6_A7 _ => [(0x0F#8, 0xFF#8), (0xA6#8, 0xFE#8)]
  | .b2_0F_A8_A9 _ => [(0x0F#8, 0xFF#8), (0xA8#8, 0xFE#8)]
  | .b2_0F_AA => [(0x0F#8, 0xFF#8), (0xAA#8, 0xFF#8)]
  | .b2_0F_AB => [(0x0F#8, 0xFF#8), (0xAB#8, 0xFF#8)]
  | .b2_0F_AC => [(0x0F#8, 0xFF#8), (0xAC#8, 0xFF#8)]
  | .b2_0F_AD => [(0x0F#8, 0xFF#8), (0xAD#8, 0xFF#8)]
  | .b2_0F_AE_AF _ => [(0x0F#8, 0xFF#8), (0xAE#8, 0xFE#8)]
  | .b2_0F_B0_B7 _ => [(0x0F#8, 0xFF#8), (0xB0#8, 0xF8#8)]
  | .b2_0F_B8_B9 _ => [(0x0F#8, 0xFF#8), (0xB8#8, 0xFE#8)]
  | .b2_0F_BA => [(0x0F#8, 0xFF#8), (0xBA#8, 0xFF#8)]
  | .b2_0F_BB => [(0x0F#8, 0xFF#8), (0xBB#8, 0xFF#8)]
  | .b2_0F_BC_BF _ => [(0x0F#8, 0xFF#8), (0xBC#8, 0xFC#8)]
  | .b2_0F_C0_C1 _ => [(0x0F#8, 0xFF#8), (0xC0#8, 0xFE#8)]
  | .b2_0F_C2 => [(0x0F#8, 0xFF#8), (0xC2#8, 0xFF#8)]
  | .b2_0F_C3 => [(0x0F#8, 0xFF#8), (0xC3#8, 0xFF#8)]
  | .b2_0F_C4_C5 _ => [(0x0F#8, 0xFF#8), (0xC4#8, 0xFE#8)]
  | .b2_0F_C6 => [(0x0F#8, 0xFF#8), (0xC6#8, 0xFF#8)]
  | .b2_0F_C7 => [(0x0F#8, 0xFF#8), (0xC7#8, 0xFF#8)]
  | .b2_0F_C8_CF _ => [(0x0F#8, 0xFF#8), (0xC8#8, 0xF8#8)]
  | .b2_0F_D0_DF _ => [(0x0F#8, 0xFF#8), (0xD0#8, 0xF0#8)]
  | .b2_0F_E0_EF _ => [(0x0F#8, 0xFF#8), (0xE0#8, 0xF0#8)]
  | .b2_0F_F0_F7 _ => [(0x0F#8, 0xFF#8), (0xF0#8, 0xF8#8)]
  | .b2_0F_F8_FB _ => [(0x0F#8, 0xFF#8), (0xF8#8, 0xFC#8)]
  | .b2_0F_FC_FD _ => [(0x0F#8, 0xFF#8), (0xFC#8, 0xFE#8)]
  | .b2_0F_FE => [(0x0F#8, 0xFF#8), (0xFE#8, 0xFF#8)]
  | .b2_0F_FF => [(0x0F#8, 0xFF#8), (0xFF#8, 0xFF#8)]
  | .b3_0F38_00_07 _ => [(0x0F#8, 0xFF#8), (0x38#8, 0xFF#8), (0x00#8, 0xF8#8)]
  | .b3_0F38_08_0B _ => [(0x0F#8, 0xFF#8), (0x38#8, 0xFF#8), (0x08#8, 0xFC#8)]
  | .b3_0F38_0C_0F _ => [(0x0F#8, 0xFF#8), (0x38#8, 0xFF#8), (0x0C#8, 0xFC#8)]
  | .b3_0F38_10 => [(0x0F#8, 0xFF#8), (0x38#8, 0xFF#8), (0x10#8, 0xFF#8)]
  | .b3_0F38_11 => [(0x0F#8, 0xFF#8), (0x38#8, 0xFF#8), (0x11#8, 0xFF#8)]
  | .b3_0F38_12_13 _ => [(0x0F#8, 0xFF#8), (0x38#8, 0xFF#8), (0x12#8, 0xFE#8)]
  | .b3_0F38_14_15 _ => [(0x0F#8, 0xFF#8), (0x38#8, 0xFF#8), (0x14#8, 0xFE#8)]
  | .b3_0F38_16 => [(0x0F#8, 0xFF#8), (0x38#8, 0xFF#8), (0x16#8, 0xFF#8)]
  | .b3_0F38_17 => [(0x0F#8, 0xFF#8), (0x38#8, 0xFF#8), (0x17#8, 0xFF#8)]
  | .b3_0F38_18_1B _ => [(0x0F#8, 0xFF#8), (0x38#8, 0xFF#8), (0x18#8, 0xFC#8)]
  | .b3_0F38_1C_1D _ => [(0x0F#8, 0xFF#8), (0x38#8, 0xFF#8), (0x1C#8, 0xFE#8)]
  | .b3_0F38_1E => [(0x0F#8, 0xFF#8), (0x38#8, 0xFF#8), (0x1E#8, 0xFF#8)]
  | .b3_0F38_1F => [(0x0F#8, 0xFF#8), (0x38#8, 0xFF#8), (0x1F#8, 0xFF#8)]
  | .b3_0F38_20_23 _ => [(0x0F#8, 0xFF#8), (0x38#8, 0xFF#8), (0x20#8, 0xFC#8)]
  | .b3_0F38_24_25 _ => [(0x0F#8, 0xFF#8), (0x38#8, 0xFF#8), (0x24#8, 0xFE#8)]
  | .b3_0F38_26_27 _ => [(0x0F#8, 0xFF#8), (0x38#8, 0xFF#8), (0x26#8, 0xFE#8)]
  | .b3_0F38_28_2B _ => [(0x0F#8, 0xFF#8), (0x38#8, 0xFF#8), (0x28#8, 0xFC#8)]
  | .b3_0F38_2C_2F _ => [(0x0F#8, 0xFF#8), (0x38#8, 0xFF#8), (0x2C#8, 0xFC#8)]
  | .b3_0F38_30_33 _ => [(0x0F#8, 0xFF#8), (0x38#8, 0xFF#8), (0x30#8, 0xFC#8)]
  | .b3_0F38_34_35 _ => [(0x0F#8, 0xFF#8), (0x38#8, 0xFF#8), (0x34#8, 0xFE#8)]
  | .b3_0F38_36 => [(0x0F#8, 0xFF#8), (0x38#8, 0xFF#8), (0x36#8, 0xFF#8)]
  | .b3_0F38_37 => [(0x0F#8, 0xFF#8), (0x38#8, 0xFF#8), (0x37#8, 0xFF#8)]
  | .b3_0F38_38_3F _ => [(0x0F#8, 0xFF#8), (0x38#8, 0xFF#8), (0x38#8, 0xF8#8)]
  | .b3_0F38_40_41 _ => [(0x0F#8, 0xFF#8), (0x38#8, 0xFF#8), (0x40#8, 0xFE#8)]
  | .b3_0F38_42_43 _ => [(0x0F#8, 0xFF#8), (0x38#8, 0xFF#8), (0x42#8, 0xFE#8)]
  | .b3_0F38_44_47 _ => [(0x0F#8, 0xFF#8), (0x38#8, 0xFF#8), (0x44#8, 0xFC#8)]
  | .b3_0F38_48_4F _ => [(0x0F#8, 0xFF#8), (0x38#8, 0xFF#8), (0x48#8, 0xF8#8)]
  | .b3_0F38_50_5F _ => [(0x0F#8, 0xFF#8), (0x38#8, 0xFF#8), (0x50#8, 0xF0#8)]
  | .b3_0F38_60_7F _ => [(0x0F#8, 0xFF#8), (0x38#8, 0xFF#8), (0x60#8, 0xE0#8)]
  | .b3_0F38_80_81 _ => [(0x0F#8, 0xFF#8), (0x38#8, 0xFF#8), (0x80#8, 0xFE#8)]
  | .b3_0F38_82 => [(0x0F#8, 0xFF#8), (0x38#8, 0xFF#8), (0x82#8, 0xFF#8)]
  | .b3_0F38_83 => [(0x0F#8, 0xFF#8), (0x38#8, 0xFF#8), (0x83#8, 0xFF#8)]
  | .b3_0F38_84_87 _ => [(0x0F#8, 0xFF#8), (0x38#8, 0xFF#8), (0x84#8, 0xFC#8)]
  | .b3_0F38_88_8F _ => [(0x0F#8, 0xFF#8), (0x38#8, 0xFF#8), (0x88#8, 0xF8#8)]
  | .b3_0F38_90_9F _ => [(0x0F#8, 0xFF#8), (0x38#8, 0xFF#8), (0x90#8, 0xF0#8)]
  | .b3_0F38_A0_BF _ => [(0x0F#8, 0xFF#8), (0x38#8, 0xFF#8), (0xA0#8, 0xE0#8)]
  | .b3_0F38_C0_C7 _ => [(0x0F#8, 0xFF#8), (0x38#8, 0xFF#8), (0xC0#8, 0xF8#8)]
  | .b3_0F38_C8_CB _ => [(0x0F#8, 0xFF#8), (0x38#8, 0xFF#8), (0xC8#8, 0xFC#8)]
  | .b3_0F38_CC_CD _ => [(0x0F#8, 0xFF#8), (0x38#8, 0xFF#8), (0xCC#8, 0xFE#8)]
  | .b3_0F38_CE_CF _ => [(0x0F#8, 0xFF#8), (0x38#8, 0xFF#8), (0xCE#8, 0xFE#8)]
  | .b3_0F38_D0_D7 _ => [(0x0F#8, 0xFF#8), (0x38#8, 0xFF#8), (0xD0#8, 0xF8#8)]
  | .b3_0F38_D8_D9 _ => [(0x0F#8, 0xFF#8), (0x38#8, 0xFF#8), (0xD8#8, 0xFE#8)]
  | .b3_0F38_DA => [(0x0F#8, 0xFF#8), (0x38#8, 0xFF#8), (0xDA#8, 0xFF#8)]
  | .b3_0F38_DB => [(0x0F#8, 0xFF#8), (0x38#8, 0xFF#8), (0xDB#8, 0xFF#8)]
  | .b3_0F38_DC_DF _ => [(0x0F#8, 0xFF#8), (0x38#8, 0xFF#8), (0xDC#8, 0xFC#8)]
  | .b3_0F38_E0_EF _ => [(0x0F#8, 0xFF#8), (0x38#8, 0xFF#8), (0xE0#8, 0xF0#8)]
  | .b3_0F38_F0_F1 _ => [(0x0F#8, 0xFF#8), (0x38#8, 0xFF#8), (0xF0#8, 0xFE#8)]
  | .b3_0F38_F2_F3 _ => [(0x0F#8, 0xFF#8), (0x38#8, 0xFF#8), (0xF2#8, 0xFE#8)]
  | .b3_0F38_F4_F5 _ => [(0x0F#8, 0xFF#8), (0x38#8, 0xFF#8), (0xF4#8, 0xFE#8)]
  | .b3_0F38_F6 => [(0x0F#8, 0xFF#8), (0x38#8, 0xFF#8), (0xF6#8, 0xFF#8)]
  | .b3_0F38_F7 => [(0x0F#8, 0xFF#8), (0x38#8, 0xFF#8), (0xF7#8, 0xFF#8)]
  | .b3_0F38_F8_FF _ => [(0x0F#8, 0xFF#8), (0x38#8, 0xFF#8), (0xF8#8, 0xF8#8)]
  | .b3_0F3A_00_07 _ => [(0x0F#8, 0xFF#8), (0x3A#8, 0xFF#8), (0x00#8, 0xF8#8)]
  | .b3_0F3A_08_0F _ => [(0x0F#8, 0xFF#8), (0x3A#8, 0xFF#8), (0x08#8, 0xF8#8)]
  | .b3_0F3A_10_13 _ => [(0x0F#8, 0xFF#8), (0x3A#8, 0xFF#8), (0x10#8, 0xFC#8)]
  | .b3_0F3A_14_17 _ => [(0x0F#8, 0xFF#8), (0x3A#8, 0xFF#8), (0x14#8, 0xFC#8)]
  | .b3_0F3A_18_1F _ => [(0x0F#8, 0xFF#8), (0x3A#8, 0xFF#8), (0x18#8, 0xF8#8)]
  | .b3_0F3A_20_21 _ => [(0x0F#8, 0xFF#8), (0x3A#8, 0xFF#8), (0x20#8, 0xFE#8)]
  | .b3_0F3A_22 => [(0x0F#8, 0xFF#8), (0x3A#8, 0xFF#8), (0x22#8, 0xFF#8)]
  | .b3_0F3A_23 => [(0x0F#8, 0xFF#8), (0x3A#8, 0xFF#8), (0x23#8, 0xFF#8)]
  | .b3_0F3A_24_27 _ => [(0x0F#8, 0xFF#8), (0x3A#8, 0xFF#8), (0x24#8, 0xFC#8)]
  | .b3_0F3A_28_2F _ => [(0x0F#8, 0xFF#8), (0x3A#8, 0xFF#8), (0x28#8, 0xF8#8)]
  | .b3_0F3A_30_3F _ => [(0x0F#8, 0xFF#8), (0x3A#8, 0xFF#8), (0x30#8, 0xF0#8)]
  | .b3_0F3A_40_41 _ => [(0x0F#8, 0xFF#8), (0x3A#8, 0xFF#8), (0x40#8, 0xFE#8)]
  | .b3_0F3A_42 => [(0x0F#8, 0xFF#8), (0x3A#8, 0xFF#8), (0x42#8, 0xFF#8)]
  | .b3_0F3A_43 => [(0x0F#8, 0xFF#8), (0x3A#8, 0xFF#8), (0x43#8, 0xFF#8)]
  | .b3_0F3A_44 => [(0x0F#8, 0xFF#8), (0x3A#8, 0xFF#8), (0x44#8, 0xFF#8)]
  | .b3_0F3A_45 => [(0x0F#8, 0xFF#8), (0x3A#8, 0xFF#8), (0x45#8, 0xFF#8)]
  | .b3_0F3A_46_47 _ => [(0x0F#8, 0xFF#8), (0x3A#8, 0xFF#8), (0x46#8, 0xFE#8)]
  | .b3_0F3A_48_4F _ => [(0x0F#8, 0xFF#8), (0x3A#8, 0xFF#8), (0x48#8, 0xF8#8)]
  | .b3_0F3A_50_5F _ => [(0x0F#8, 0xFF#8), (0x3A#8, 0xFF#8), (0x50#8, 0xF0#8)]
  | .b3_0F3A_60_63 _ => [(0x0F#8, 0xFF#8), (0x3A#8, 0xFF#8), (0x60#8, 0xFC#8)]
  | .b3_0F3A_64_67 _ => [(0x0F#8, 0xFF#8), (0x3A#8, 0xFF#8), (0x64#8, 0xFC#8)]
  | .b3_0F3A_68_6F _ => [(0x0F#8, 0xFF#8), (0x3A#8, 0xFF#8), (0x68#8, 0xF8#8)]
  | .b3_0F3A_70_7F _ => [(0x0F#8, 0xFF#8), (0x3A#8, 0xFF#8), (0x70#8, 0xF0#8)]
  | .b3_0F3A_80_BF _ => [(0x0F#8, 0xFF#8), (0x3A#8, 0xFF#8), (0x80#8, 0xC0#8)]
  | .b3_0F3A_C0_C7 _ => [(0x0F#8, 0xFF#8), (0x3A#8, 0xFF#8), (0xC0#8, 0xF8#8)]
  | .b3_0F3A_C8_CB _ => [(0x0F#8, 0xFF#8), (0x3A#8, 0xFF#8), (0xC8#8, 0xFC#8)]
  | .b3_0F3A_CC => [(0x0F#8, 0xFF#8), (0x3A#8, 0xFF#8), (0xCC#8, 0xFF#8)]
  | .b3_0F3A_CD => [(0x0F#8, 0xFF#8), (0x3A#8, 0xFF#8), (0xCD#8, 0xFF#8)]
  | .b3_0F3A_CE_CF _ => [(0x0F#8, 0xFF#8), (0x3A#8, 0xFF#8), (0xCE#8, 0xFE#8)]
  | .b3_0F3A_D0_D7 _ => [(0x0F#8, 0xFF#8), (0x3A#8, 0xFF#8), (0xD0#8, 0xF8#8)]
  | .b3_0F3A_D8_DB _ => [(0x0F#8, 0xFF#8), (0x3A#8, 0xFF#8), (0xD8#8, 0xFC#8)]
  | .b3_0F3A_DC_DD _ => [(0x0F#8, 0xFF#8), (0x3A#8, 0xFF#8), (0xDC#8, 0xFE#8)]
  | .b3_0F3A_DE => [(0x0F#8, 0xFF#8), (0x3A#8, 0xFF#8), (0xDE#8, 0xFF#8)]
  | .b3_0F3A_DF => [(0x0F#8, 0xFF#8), (0x3A#8, 0xFF#8), (0xDF#8, 0xFF#8)]
  | .b3_0F3A_E0_FF _ => [(0x0F#8, 0xFF#8), (0x3A#8, 0xFF#8), (0xE0#8, 0xE0#8)]

/-- The first bytes of a byte string belong to a row (R128). -/
def belongsTo : List (Byte × Byte) → List Byte → Bool
  | [], _ => true
  | _ :: _, [] => false
  | (value, mask) :: rest, b :: bs => b &&& mask == value && belongsTo rest bs

end Sys2Proof.Machine
end

