-- ==== Sys2Proof/Safety.lean ====
section
/-! DEFINITION. The terms in which statements about runs are made: the invariant of reachable states, a block ready to
pull, the states after a yield and after a fault, a sequence of pulls, the commands a host can issue. -/

namespace Sys2Proof.Machine

open Host

/-- What holds in every state a run reaches: `CUR <= END <= N` (R28, R43), `VA` fits its width (R27), `FAULT` and `FCAUSE`
agree (R32), the buffer's list is canonical, and every view the host holds is one byte or more inside the buffer (R180). -/
abbrev StateInv (s : State) : Prop :=
  s.cur ≤ s.endIdx ∧ s.endIdx ≤ s.mem.size ∧ s.va.toNat < 2 ^ s.cfg.arch.vaw
    ∧ (s.fault = false ↔ s.fcause = .none) ∧ s.mem.wf = true
    ∧ ∀ v ∈ s.views, 1 ≤ v.len ∧ v.base + v.len ≤ s.mem.size

/-- The remaining bytes `BUF[CUR..END)` (R28). -/
def remainingBytes (s : State) : List Byte := s.mem.slice s.cur (s.endIdx - s.cur)

/-- A pull runs the engine (R225, R264): no fault is latched, the exhausted latch does not answer, and the bound slice lies
inside the buffer. -/
abbrev Pullable (s : State) : Prop :=
  s.fault = false ∧ (s.cfg.exhLatch = true → s.exh = false) ∧ s.cur ≤ s.endIdx ∧ s.endIdx ≤ s.mem.size

/-- The host may use the view: no fault is latched (R264), the block has yielded it (R181), and it lies inside the
buffer (R180). -/
abbrev Usable (v : View) (s : State) : Prop :=
  s.fault = false ∧ v ∈ s.views ∧ v.base + v.len ≤ s.mem.size

/-- `VA + k` fits in VAW bits (R231). -/
abbrev VaFits (k : Nat) (s : State) : Prop := s.va.toNat + k ≤ 2 ^ s.cfg.arch.vaw - 1

/-- The state after a pull that yields `len` bytes: only CUR and VA move, by the same amount, and the answer is
`SOME((CUR, len, MUT), VA)` with CUR and VA from before (R225, R227, R228). -/
def yieldedState (len : Nat) (s : State) : State :=
  { s with
    cur := s.cur + len
    va := BitVec.ofNat 64 (s.va.toNat + len)
    views := { base := s.cur, len := len, mutBit := s.mutBit } :: s.views
    resp := .yielded { base := s.cur, len := len, mutBit := s.mutBit } s.va }

/-- The state after a pull that meets the failure sentinel (R226). -/
def exhaustedState (s : State) : State := { s with exh := true, resp := .nothing }

/-- The state after a fault: nothing but the latch has changed (R262). -/
def faultedState (c : FCause) (f : FaultInfo) (s : State) : State :=
  { s with fault := true, fcause := c, resp := .faulted f }

/-- What repeated pulls yield, until one yields nothing. -/
def pulled : Nat → State → List (View × VaWord)
  | 0, _ => []
  | n + 1, s =>
    match execIterNext s with
    | .next t =>
      match t.resp with
      | .yielded v va => (v, va) :: pulled n t
      | _ => []
    | _ => []

/-- Two views cover no common byte (R67). -/
def viewsDisjoint (a b : View) : Prop := a.base + a.len ≤ b.base ∨ b.base + b.len ≤ a.base

/-- How many bytes of the slice a successful decode reads: the prefix bytes, the opcode bytes, the addressing byte and the
extension byte (20_memory.md R58); 0 for a failed one. -/
def bytesRead (cfg : Config) (s : List Byte) : Nat :=
  match prefixLoop cfg (startWidths cfg.arch) s with
  | none => 0
  | some (l, op, rest) =>
    match dispatchOpcode cfg l op rest with
    | none => 0
    | some info =>
      match addressing l info.modrm info.rest with
      | none => 0
      | some (consumed, _) => l.count + info.count + consumed

/-- A prefix byte of the instance (R82, R83). -/
def isPrefixByte (cfg : Config) (b : Byte) : Bool :=
  tableHas cfg.tables.isLegacyPrefix b || cfg.arch == .x64 && tableHas cfg.tables.isRex b

/-- The sixteen typed accesses: the width in bytes of a typed read (R186). -/
def readWidth : Instr → Option (View × Nat × Nat)
  | .viewReadU8 v off => some (v, off, 1)
  | .viewReadU16 v off => some (v, off, 2)
  | .viewReadU32 v off => some (v, off, 4)
  | .viewReadU64 v off => some (v, off, 8)
  | .viewReadI8 v off => some (v, off, 1)
  | .viewReadI16 v off => some (v, off, 2)
  | .viewReadI32 v off => some (v, off, 4)
  | .viewReadI64 v off => some (v, off, 8)
  | _ => none

/-- The view, the offset, the width in bytes and the bit pattern of a typed write (R195). -/
def writeOperands : Instr → Option (View × Nat × Nat × Nat)
  | .viewWriteU8 v off x => some (v, off, 1, x.toNat)
  | .viewWriteU16 v off x => some (v, off, 2, x.toNat)
  | .viewWriteU32 v off x => some (v, off, 4, x.toNat)
  | .viewWriteU64 v off x => some (v, off, 8, x.toNat)
  | .viewWriteI8 v off x => some (v, off, 1, x.toNat)
  | .viewWriteI16 v off x => some (v, off, 2, x.toNat)
  | .viewWriteI32 v off x => some (v, off, 4, x.toNat)
  | .viewWriteI64 v off x => some (v, off, 8, x.toNat)
  | _ => none

/-- The operands are values the interface has in this state: slices inside the buffer (R50), a start address of VAW bits
(R223), views the host holds (R181). -/
def issuable (i : Instr) (s : State) : Bool :=
  match i with
  | .decodeBreakdown base len => decide (base + len ≤ s.mem.size)
  | .decodeLen base len => decide (base + len ≤ s.mem.size)
  | .iterStart base len va0 _ => decide (base + len ≤ s.mem.size) && decide (va0.toNat < 2 ^ s.cfg.arch.vaw)
  | i => (viewOperands i).all fun v => decide (v ∈ s.views)

/-- Which responses a command may answer when no fault is latched (R258). -/
def mayAnswer (i : Instr) (r : Response) : Bool :=
  match i, r with
  | .reset, .done => true
  | .decodeBreakdown _ _, .breakdown _ => true
  | .decodeLen _ _, .length _ => true
  | .iterStart _ _ _ _, .done => true
  | .iterSkip _, .done => true
  | .iterSkip _, .faulted (.skipRange _ _) => true
  | .iterSkip _, .faulted .vaOverflow => true
  | .viewLen _, .length _ => true
  | .viewBytes _, .bytes _ => true
  | .viewEq _ _, .equal _ => true
  | .viewCmp _ _, .order _ => true
  | .viewHash _, .hash _ => true
  | .iterNext, r => pullMayAnswer r
  | i, r =>
    match readWidth i, writeOperands i with
    | some _, _ =>
      match r with
      | .unsigned _ => true
      | .signed _ => true
      | .faulted (.viewBounds _ _ _) => true
      | _ => false
    | none, some _ =>
      match r with
      | .done => true
      | .faulted .viewReadOnly => true
      | .faulted (.viewBounds _ _ _) => true
      | _ => false
    | none, none => !isCommand i && pullMayAnswer r
where
  /-- The responses of a pull (R258). -/
  pullMayAnswer : Response → Bool
    | .yielded _ _ => true
    | .nothing => true
    | .faulted .vaOverflow => true
    | _ => false

/-- The displacement and extension bytes after an addressing byte `m` with extension byte `x`, as the words of R89 have
them: the extension byte is there when `mode` is not 3 and `rm` is 4. -/
def addressingTail (adisp : Nat) (m x : Byte) : Nat :=
  if modeField m = 3 then 0
  else
    (if lowField m = 4 then 1 else 0)
      + (if modeField m = 0 then (if lowField m = 5 then 4 else if lowField m = 4 ∧ lowField x = 5 then 4 else 0)
         else if modeField m = 1 then 1 else adisp)

/-- The immediate bytes of a one-byte opcode with no prefix before it, by the fields of its row (R90); `m` is the addressing
byte. -/
def oneImmediate (arch : Arch) (f : OneFields) (m : Byte) : Nat :=
  (if f.imm8 then 1 else 0) + (if f.immDef then 4 else 0) + (if f.immFull then 4 else 0) + (if f.imm16 then 2 else 0)
    + (if f.moffs then (if arch = .x86 then 4 else 8) else 0)
    + (match f.pair with
        | .none => 0
        | .imm8 => if regField m ≤ 1 then 1 else 0
        | .immDef => if regField m ≤ 1 then 4 else 0)

/-- The immediate bytes of a two-byte opcode with no prefix before it, by the fields of its row (R90). -/
def twoImmediate (f : TwoFields) : Nat :=
  (if f.imm8 then 1 else 0) + (if f.immDef then 4 else 0) + (if f.imm16 then 2 else 0)

/-- The last byte of a run of prefixes is a REX byte with bit 3 set (R147). -/
def lastRexW (cfg : Config) (pre : List Byte) : Bool :=
  match pre.getLast? with
  | none => false
  | some b => tableHas cfg.tables.isRex b && b.getLsbD 3

/-- The width of an absolute-addressing immediate, by whether an address-size override was seen (R141, R144, R146, R161). -/
def absoluteWidth (arch : Arch) (override : Bool) : Nat :=
  match arch with
  | .x86 => if override then 2 else 4
  | .x64 => if override then 4 else 8

/-- The width of a mode-2 displacement, by whether an address-size override was seen (R141, R144, R146, R169). -/
def displacementWidth (arch : Arch) (override : Bool) : Nat := if arch = .x86 ∧ override = true then 2 else 4

/-- The immediate bytes of a one-byte opcode by the entries of the tables (R157 to R163), where a default-width immediate
has `w` bytes, a full-width one `f` and an absolute one `a`; `m` is the byte after the opcode. -/
def tableImmediate (cfg : Config) (w f a : Nat) (op m : Byte) : Nat :=
  (if tableHas cfg.tables.op1Imm8 op then 1 else 0) + (if tableHas cfg.tables.op1ImmDef op then w else 0)
    + (if tableHas cfg.tables.op1ImmFull op then f else 0) + (if tableHas cfg.tables.op1Imm16 op then 2 else 0)
    + (if tableHas cfg.tables.op1Moffs op then a else 0)
    + (if cfg.g3ImmRegs.getLsbD (regField m) then
        if tableHas cfg.tables.op1G3Imm8 op then 1 else if tableHas cfg.tables.op1G3ImmDef op then w else 0
       else 0)

/-- The same for a two-byte opcode (R154). -/
def tableImmediateTwo (cfg : Config) (w : Nat) (op : Byte) : Nat :=
  (if tableHas cfg.tables.op2ImmDef op then w else 0) + (if tableHas cfg.tables.op2Imm8 op then 1 else 0)
    + (if tableHas cfg.tables.op2Imm16 op then 2 else 0)

/-- A breakdown with `n` more prefix bytes; a failure stays a failure. -/
def withPrefixes (n : Nat) (r : Breakdown) : Breakdown :=
  if r.total = 0 then r else { r with total := r.total + n, prefixBytes := r.prefixBytes + n }

/-- The instance runs T_default with the default set of `reg` values (R8, R114 to R122). -/
abbrev RunsDefault (s : State) : Prop := s.cfg.tables = defaultTables ∧ s.cfg.g3ImmRegs = defaultG3ImmRegs

end Sys2Proof.Machine
end

