-- ==== Sys2Proof/Certificates/Slice0/Obligations.lean ====
section
/-! DEFINITION. The statements about the model. Each docstring names the rule of spec/ it formalises; the terms are those of
Safety.lean. -/

open Sys2Proof Sys2Proof.Machine Host

/-! Reset and the stateless commands. -/

/-- R280: RESET writes all six registers, is never refused, and keeps the buffer, the instance and what the host
holds. -/
def Obligations.ResetClearsEveryRegister : Prop :=
  ∀ s : State,
    exec .reset s
      = .next { s with cur := 0, endIdx := 0, va := 0, exh := false, mutBit := false, fault := false, fcause := .none,
                       resp := .done }

/-- R281: power-on is a RESET, so RESET of the reset state changes no register (the response is
the model's own field, assumption log 16); R41, R285: a pull right after a reset meets
the empty slice, answers NONE and sets EXH. -/
def Obligations.PullAfterResetAnswersNone : Prop :=
  exec .reset State.reset = .next { State.reset with resp := .done }
    ∧ ∀ s t : State, exec .reset s = .next t → exec .iterNext t = .next (exhaustedState t)

/-- R140, R174, R284: the decode commands answer the engine's breakdown and its total, and change nothing else. -/
def Obligations.DecodeCommandsAnswerTheEngine : Prop :=
  ∀ (s : State) (base len : Nat), s.fault = false → base + len ≤ s.mem.size →
    exec (.decodeBreakdown base len) s
        = .next { s with resp := .breakdown (measure s.cfg (s.mem.slice base len)) }
      ∧ exec (.decodeLen base len) s = .next { s with resp := .length (measure s.cfg (s.mem.slice base len)).total }

/-! The engine. -/

/-- R175. -/
def Obligations.DecodeNeverExceedsTheSlice : Prop :=
  ∀ (cfg : Config) (b : List Byte), (measure cfg b).total ≤ b.length

/-- R177, an inference of the spec's own from R141 to R170, with what R106 (e) asks of the tables: the bytes after the
instruction play no part, whether they are there or not. -/
def Obligations.DecodeNeedsNoByteBeyondTheInstruction : Prop :=
  ∀ (cfg : Config) (b b' : List Byte), tablesStructural cfg.tables = true → 0 < (measure cfg b).total →
    (measure cfg b).total ≤ b'.length → b'.take (measure cfg b).total = b.take (measure cfg b).total →
      measure cfg b' = measure cfg b

/-- Derived (95_test_vectors.md, section 1.3): an instruction cut short anywhere fails. -/
def Obligations.CutInstructionFails : Prop :=
  ∀ (cfg : Config) (b : List Byte) (k : Nat), tablesStructural cfg.tables = true → k < (measure cfg b).total →
    measure cfg (b.take k) = failedBreakdown

/-- R58: the displacement and immediate bytes are counted and never read; a decode depends on the bytes it reads and
on the slice length alone. -/
def Obligations.DecodeReadsOnlyTheBytesItConsumes : Prop :=
  ∀ (cfg : Config) (b b' : List Byte), tablesStructural cfg.tables = true → 0 < (measure cfg b).total →
    bytesRead cfg b ≤ (measure cfg b).total
      ∧ (b'.length = b.length → b'.take (bytesRead cfg b) = b.take (bytesRead cfg b) → measure cfg b' = measure cfg b)

/-- R171, R173: the counts add up and the opcode has one to three bytes; a failure is four zeros. -/
def Obligations.BreakdownAddsUpOrIsAllZero : Prop :=
  ∀ (cfg : Config) (b : List Byte),
    let r := measure cfg b
    r = failedBreakdown
      ∨ (0 < r.total ∧ r.total = r.prefixBytes + r.opcodeBytes + r.argumentBytes ∧ 1 ≤ r.opcodeBytes ∧ r.opcodeBytes ≤ 3)

/-- R81, R172: there is no greatest length; any number of prefix bytes before C3 decodes. -/
def Obligations.PrefixRunOfAnyLengthDecodes : Prop :=
  ∀ (cfg : Config) (n : Nat), cfg.tables = defaultTables →
    measure cfg (List.replicate n 0xF0#8 ++ [0xC3#8])
      = { total := n + 1, opcodeBytes := 1, argumentBytes := 0, prefixBytes := n }

/-- R142: a legacy prefix other than the two overrides has no effect at the front of an instruction but to be counted.
-/
def Obligations.LegacyPrefixIsOnlyCounted : Prop :=
  ∀ (cfg : Config) (b : Byte) (s : List Byte), tableHas cfg.tables.isLegacyPrefix b = true → b ≠ cfg.tables.opsize →
    b ≠ cfg.tables.adsize →
      measure cfg (b :: s)
        = (if (measure cfg s).total = 0 then failedBreakdown
           else { measure cfg s with total := (measure cfg s).total + 1
                                     prefixBytes := (measure cfg s).prefixBytes + 1 })

/-- R143, R158: one operand-size override or several make the default-width immediate 2 bytes, and without one it is
4. -/
def Obligations.OperandSizeOverrideActsOnce : Prop :=
  ∀ (cfg : Config) (n : Nat) (tail : List Byte), cfg.tables = defaultTables →
    (4 ≤ tail.length →
        measure cfg (0xE8#8 :: tail) = { total := 5, opcodeBytes := 1, argumentBytes := 4, prefixBytes := 0 })
      ∧ (2 ≤ tail.length →
          measure cfg (List.replicate (n + 1) 0x66#8 ++ 0xE8#8 :: tail)
            = { total := n + 4, opcodeBytes := 1, argumentBytes := 2, prefixBytes := n + 1 })
      ∧ (tail.length < 2 →
          measure cfg (List.replicate (n + 1) 0x66#8 ++ 0xE8#8 :: tail) = failedBreakdown)

/-- R141, R144, R146, R161, R169: after any run of prefixes, an absolute form has 4 bytes of address on X86 and 8 on X64,
and 2 and 4 where the run holds an address-size override, once or more often; cut short it fails. The same override makes
a mode-2 displacement 2 bytes on X86 and changes nothing else there or on X64. No operand-size override plays a part.
Under T_default the absolute forms are A0 to A3. -/
def Obligations.AddressSizeOverrideByArchitecture : Prop :=
  ∀ (cfg : Config) (pre : List Byte) (op m x : Byte) (tail : List Byte), tablesStructural cfg.tables = true →
    (∀ b ∈ pre, isPrefixByte cfg b = true) →
    (cfg.tables = defaultTables → 0xA0#8 ≤ op → op ≤ 0xA3#8 →
        isPrefixByte cfg op = false ∧ op ≠ 0x0F#8 ∧ tableHas cfg.tables.op1Modrm op = false
          ∧ carriesOnlyMoffs cfg.tables op = true)
      ∧ (isPrefixByte cfg op = false → op ≠ 0x0F#8 →
          let override := decide (cfg.tables.adsize ∈ pre)
          let width := absoluteWidth cfg.arch override
          (tableHas cfg.tables.op1Modrm op = false → carriesOnlyMoffs cfg.tables op = true →
              (width ≤ tail.length →
                  measure cfg (pre ++ op :: tail)
                    = { total := pre.length + 1 + width, opcodeBytes := 1, argumentBytes := width, prefixBytes := pre.length })
                ∧ (tail.length < width → measure cfg (pre ++ op :: tail) = failedBreakdown))
            ∧ (tableHas cfg.tables.op1Modrm op = true → carriesNoImmediate cfg.tables op = true → 4 ≤ tail.length →
                (measure cfg (pre ++ op :: m :: x :: tail)).total
                  = pre.length + 2 + addressingTail (displacementWidth cfg.arch override) m x))

/-- R145: on X64 any number of REX bytes are prefixes; on X86 the bytes 40 to 4F are one-byte opcodes. -/
def Obligations.RexBytesArePrefixesOnX64Only : Prop :=
  ∀ (cfg : Config) (rex : List Byte) (b : Byte) (tail : List Byte), cfg.tables = defaultTables →
    (∀ r ∈ rex, 0x40#8 ≤ r ∧ r ≤ 0x4F#8) → 0x40#8 ≤ b → b ≤ 0x4F#8 →
      (cfg.arch = .x64 →
          measure cfg (rex ++ 0x90#8 :: tail)
            = { total := rex.length + 1, opcodeBytes := 1, argumentBytes := 0, prefixBytes := rex.length })
        ∧ (cfg.arch = .x86 →
            measure cfg (b :: tail) = { total := 1, opcodeBytes := 1, argumentBytes := 0, prefixBytes := 0 })

/-- R147: REXW_POLICY plays no part on X86, nor where no byte is a REX prefix. -/
def Obligations.RexwPolicyActsThroughRexOnly : Prop :=
  ∀ (cfg : Config) (p : RexwPolicy) (b : List Byte),
    (cfg.arch = .x86 ∨ ∀ x ∈ b, tableHas cfg.tables.isRex x = false) →
      measure { cfg with rexwPolicy := p } b = measure cfg b

/-- R147, R154, R157 to R163, for any run of prefixes on X64 and any opcode. The default width is 4, and 2 after an
operand-size override. Where REXW_POLICY is WIDEN and the last prefix is a REX byte with W set, a default-width immediate
(of a one-byte opcode, of the group pair, of a two-byte opcode) has 4 bytes all the same and a full-width one 8. Where the
last prefix is no such byte, and in the three-byte maps, the policy plays no part; and under IGNORE a REX byte is only
counted. -/
def Obligations.RexwWidensWhenLastPrefix : Prop :=
  ∀ (cfg : Config) (pre : List Byte) (op m x : Byte) (tail : List Byte), cfg.arch = .x64 →
    tablesStructural cfg.tables = true → (∀ b ∈ pre, isPrefixByte cfg b = true) →
    let widened := decide (cfg.rexwPolicy = .widen) && lastRexW cfg pre
    let ddef := if cfg.tables.opsize ∈ pre then 2 else 4
    let w := if widened then 4 else ddef
    let f := if widened then 8 else ddef
    (isPrefixByte cfg op = false → op ≠ 0x0F#8 → 40 ≤ tail.length →
        (measure cfg (pre ++ op :: m :: x :: tail)).total
          = pre.length + 1 + (if tableHas cfg.tables.op1Modrm op then 1 + addressingTail 4 m x else 0)
            + tableImmediate cfg w f (absoluteWidth .x64 (decide (cfg.tables.adsize ∈ pre))) op m)
      ∧ (op ≠ 0x38#8 → op ≠ 0x3A#8 → tableHas cfg.tables.op2Invalid op = false → 40 ≤ tail.length →
          (measure cfg (pre ++ 0x0F#8 :: op :: m :: x :: tail)).total
            = pre.length + 2 + (if tableHas cfg.tables.op2Modrm op then 1 + addressingTail 4 m x else 0)
              + tableImmediateTwo cfg w op)
      ∧ (∀ p : RexwPolicy, lastRexW cfg pre = false →
          isPrefixByte cfg op = false →
            measure { cfg with rexwPolicy := p } (pre ++ op :: tail) = measure cfg (pre ++ op :: tail))
      ∧ (∀ p : RexwPolicy, op = 0x38#8 ∨ op = 0x3A#8 →
          measure { cfg with rexwPolicy := p } (pre ++ 0x0F#8 :: op :: tail) = measure cfg (pre ++ 0x0F#8 :: op :: tail))
      ∧ (cfg.rexwPolicy = .ignore → isPrefixByte cfg op = false →
          measure cfg (pre ++ op :: tail)
            = withPrefixes (pre.countP (tableHas cfg.tables.isRex))
                (measure cfg (pre.filter (fun b => !tableHas cfg.tables.isRex b) ++ op :: tail)))

/-- R105, R233: for every table record with the entries the source's scenarios fix, the engine gives the scenarios'
lengths: the eight of the 32-bit engine, and the two items of the 64-bit fixture for every value of the placeholder.
-/
def Obligations.SourceScenariosForEveryTable : Prop :=
  (∀ (cfg : Config) (d e f g : Byte), cfg.arch = .x86 → tablesEntries .x86 cfg.tables = true →
      (measure cfg [0x40#8]).total = 1 ∧ (measure cfg [0xB8#8, d, e, f, g]).total = 5
        ∧ (measure cfg [0x04#8, d]).total = 2 ∧ (measure cfg [0x89#8, 0x5D#8, d]).total = 3
        ∧ (measure cfg [0x84#8, 0xC0#8]).total = 2 ∧ (measure cfg [0xDD#8, 0x84#8, 0x00#8, d, e, f, g]).total = 7
        ∧ (measure cfg [0x67#8, 0xA1#8, d, e]).total = 4 ∧ (measure cfg [0xC3#8]).total = 1)
    ∧ (∀ (cfg : Config) (d : Byte) (tail : List Byte), cfg.arch = .x64 → tablesEntries .x64 cfg.tables = true →
        (measure cfg (0x40#8 :: 0x55#8 :: tail)).total = 2
          ∧ (measure cfg (0x48#8 :: 0x83#8 :: 0xEC#8 :: d :: tail)).total = 4)

/-- R105, R106: T_default has the entries the scenarios fix and meets the structural constraints, and under it the slice
00 80 fails to decode on X64: an instance over T_default is one the model accepts, whatever its other constants. -/
def Obligations.DefaultTablesMeetTheConstraints : Prop :=
  tablesStructural defaultTables = true ∧ tablesEntries .x86 defaultTables = true
    ∧ tablesEntries .x64 defaultTables = true
    ∧ ∀ cfg : Config, cfg.tables = defaultTables →
        (cfg.arch = .x64 → measure cfg [0x00#8, 0x80#8] = failedBreakdown) ∧ instanceAccepted cfg = true

/-- R112, an inference of the spec's own from R156: a decode that starts with a one-byte opcode fails only by
truncation: with 40 bytes after the opcode it succeeds, whatever the tables. -/
def Obligations.OneByteOpcodeFailsOnlyByTruncation : Prop :=
  ∀ (cfg : Config) (op : Byte) (tail : List Byte), isPrefixByte cfg op = false → op ≠ 0x0F#8 → 40 ≤ tail.length →
    0 < (measure cfg (op :: tail)).total

/-- R110, R111: an invalid two-byte or three-byte opcode fails, after any prefixes and before any bytes. -/
def Obligations.InvalidOpcodesFail : Prop :=
  ∀ (cfg : Config) (pre tail : List Byte) (op : Byte), tablesStructural cfg.tables = true →
    (∀ b ∈ pre, isPrefixByte cfg b = true) →
      (op ≠ 0x38#8 → op ≠ 0x3A#8 → tableHas cfg.tables.op2Invalid op = true →
          measure cfg (pre ++ 0x0F#8 :: op :: tail) = failedBreakdown)
        ∧ (tableHas cfg.tables.op38Invalid op = true →
            measure cfg (pre ++ 0x0F#8 :: 0x38#8 :: op :: tail) = failedBreakdown)
        ∧ (tableHas cfg.tables.op3AInvalid op = true →
            measure cfg (pre ++ 0x0F#8 :: 0x3A#8 :: op :: tail) = failedBreakdown)

/-- R89: the bytes that the addressing byte `m` and the extension byte `x` ask for, without a prefix and after an
address-size override, which changes the mode-2 width on X86 only. -/
def Obligations.AddressingByteDecidesTheDisplacement : Prop :=
  ∀ (cfg : Config) (op m x : Byte) (tail : List Byte), tablesStructural cfg.tables = true →
    isPrefixByte cfg op = false → op ≠ 0x0F#8 → tableHas cfg.tables.op1Modrm op = true →
    carriesNoImmediate cfg.tables op = true → 4 ≤ tail.length →
      (measure cfg (op :: m :: x :: tail)).total = 2 + addressingTail 4 m x
        ∧ (measure cfg (cfg.tables.adsize :: op :: m :: x :: tail)).total
            = 3 + addressingTail (if cfg.arch = .x86 then 2 else 4) m x

/-- R152, R151: a valid three-byte opcode takes an addressing byte and, under 0F 3A, one immediate byte; cut inside the
opcode it fails. -/
def Obligations.ThreeByteOpcodesTakeAnAddressingByte : Prop :=
  ∀ (cfg : Config) (op m : Byte) (tail : List Byte), tablesStructural cfg.tables = true → modeField m = 3 →
    (tableHas cfg.tables.op38Invalid op = false →
        measure cfg (0x0F#8 :: 0x38#8 :: op :: m :: tail)
          = { total := 4, opcodeBytes := 3, argumentBytes := 1, prefixBytes := 0 })
      ∧ (tableHas cfg.tables.op3AInvalid op = false → 1 ≤ tail.length →
          measure cfg (0x0F#8 :: 0x3A#8 :: op :: m :: tail)
            = { total := 5, opcodeBytes := 3, argumentBytes := 2, prefixBytes := 0 })
      ∧ measure cfg [0x0F#8] = failedBreakdown ∧ measure cfg [0x0F#8, 0x38#8] = failedBreakdown
      ∧ measure cfg [0x0F#8, 0x3A#8] = failedBreakdown ∧ measure cfg [0x0F#8, 0x38#8, op] = failedBreakdown
      ∧ measure cfg [0x0F#8, 0x3A#8, op] = failedBreakdown

/-- R128: the tables of rules R114 to R122 and the fields of the opcode table agree on every byte of every row, but for the
two override fields of the row B1_64_67: that row of the opcode table denies for 66 and 67 what R95 and R114 state, the
model follows the rules (DEDUCED, assumption log 12), and its copy of the row is a legacy prefix row with no field for the
overrides. -/
def Obligations.RowsAgreeWithTheDefaultTables : Prop :=
  ∀ i : Instr, rowAgrees defaultTables (rowClass i) (encode i) = true

/-! The iterator. -/

/-- R223: ITER_START binds the slice, clears EXH, loads MUT and touches nothing else; over an empty slice the first pull
answers NONE. -/
def Obligations.IterStartBindsTheSlice : Prop :=
  ∀ (s : State) (base len : Nat) (va0 : VaWord) (m : Bool), s.fault = false → base + len ≤ s.mem.size →
    va0.toNat < 2 ^ s.cfg.arch.vaw →
      exec (.iterStart base len va0 m) s
          = .next { s with cur := base, endIdx := base + len, va := va0, exh := false, mutBit := m, resp := .done }
        ∧ (len = 0 → ∀ t, exec (.iterStart base len va0 m) s = .next t →
            exec .iterNext t = .next (exhaustedState t))

/-- R225 to R228, R231: what a pull does with the length of the first remaining instruction; and with the latch set it
answers NONE. -/
def Obligations.PullYieldsFailsOrOverflows : Prop :=
  ∀ s : State,
    (Pullable s →
        (0 < (measure s.cfg (remainingBytes s)).total → VaFits (measure s.cfg (remainingBytes s)).total s →
            exec .iterNext s = .next (yieldedState (measure s.cfg (remainingBytes s)).total s))
          ∧ ((measure s.cfg (remainingBytes s)).total = 0 → exec .iterNext s = .next (exhaustedState s))
          ∧ (0 < (measure s.cfg (remainingBytes s)).total → ¬ VaFits (measure s.cfg (remainingBytes s)).total s →
              exec .iterNext s = .next (faultedState .vaOverflow .vaOverflow s)))
      ∧ (s.fault = false → s.cfg.exhLatch = true → s.exh = true →
          exec .iterNext s = .next { s with resp := .nothing })

/-- R229, R230: a skip moves CUR and VA by `k`; SkipRange comes before VaOverflow, and on either nothing but the latch
changes. -/
def Obligations.SkipMovesThePosition : Prop :=
  ∀ (s : State) (k : Nat), s.fault = false → s.cur ≤ s.endIdx → s.endIdx ≤ s.mem.size →
    (s.cur + k ≤ s.endIdx → VaFits k s →
        exec (.iterSkip k) s
          = .next { s with cur := s.cur + k, va := BitVec.ofNat 64 (s.va.toNat + k), resp := .done })
      ∧ (s.endIdx < s.cur + k →
          exec (.iterSkip k) s
            = .next (faultedState .skipRange (.skipRange k (s.endIdx - s.cur)) s))
      ∧ (s.cur + k ≤ s.endIdx → ¬ VaFits k s →
          exec (.iterSkip k) s = .next (faultedState .vaOverflow .vaOverflow s))

/-- R43 (b) to (d), R29: between two ITER_START commands END stays, CUR and VA only grow and by the same amount, and
EXH once 1 stays 1. -/
def Obligations.PositionAndAddressMoveTogether : Prop :=
  ∀ (i : Instr) (s t : State), StateInv s → i ≠ .reset → (∀ base len va0 m, i ≠ .iterStart base len va0 m) →
    exec i s = .next t →
      t.endIdx = s.endIdx ∧ s.cur ≤ t.cur ∧ s.va.toNat ≤ t.va.toNat
        ∧ t.va.toNat - s.va.toNat = t.cur - s.cur ∧ (s.exh = true → t.exh = true)

/-- R232, R233: repeated pulls yield views that lie one behind the other from CUR on, each with the address of its first
byte, no two with a common byte, never more bytes than remain; and they stop only where the bytes do not decode or the
address would not fit. -/
def Obligations.PulledItemsTileTheSlice : Prop :=
  ∀ (s : State) (n : Nat), StateInv s → Pullable s →
    let items := pulled n s
    let before := fun k => ((items.take k).map fun item => item.1.len).sum
    (∀ (k : Nat) (h : k < items.length),
        (items[k].1.base = s.cur + before k ∧ items[k].2.toNat = s.va.toNat + before k)
          ∧ 1 ≤ items[k].1.len ∧ items[k].1.mutBit = s.mutBit)
      ∧ items.Pairwise (fun a b => viewsDisjoint a.1 b.1)
      ∧ s.cur + before items.length ≤ s.endIdx
      ∧ (items.length < n → s.va.toNat + (s.endIdx - s.cur) ≤ 2 ^ s.cfg.arch.vaw - 1 →
          (measure s.cfg (s.mem.slice (s.cur + before items.length)
            (s.endIdx - (s.cur + before items.length)))).total = 0)

/-- R233, the source's fixture: from address 0x1000 the eight bytes yield exactly two items, whatever the placeholder,
the REXW_POLICY and the EXH_LATCH, for every table record that satisfies R105. -/
def Obligations.FixtureYieldsTwoItems : Prop :=
  ∀ (s t : State) (p : Byte) (n : Nat), s.fault = false → s.cfg.arch = .x64 → tablesScenario s.cfg = true →
    8 ≤ s.mem.size →
    s.mem.slice 0 8 = [0x40#8, 0x55#8, 0x48#8, 0x83#8, 0xEC#8, p, 0x00#8, 0x80#8] →
    exec (.iterStart 0 8 0x1000#64 false) s = .next t →
      pulled (n + 3) t
        = [({ base := 0, len := 2, mutBit := false }, 0x1000#64), ({ base := 2, len := 4, mutBit := false }, 0x1002#64)]

/-! The x86 instructions the block measures: the byte-class rows. That the meaning of a row is the pull on an instruction
that begins with the row's bytes is the model's reading, assumption log 9. -/

/-- R225 on an x86 instruction: whichever of the 250 rows the bytes at CUR begin with, the block yields the bytes the
engine measures, or exhausts the iterator, or faults where the address does not fit. -/
def Obligations.EveryRowIsMeasuredAndPassed : Prop :=
  ∀ (i : Instr) (s : State), isCommand i = false → Pullable s → encode i <+: remainingBytes s →
    (0 < (measure s.cfg (remainingBytes s)).total → VaFits (measure s.cfg (remainingBytes s)).total s →
        exec i s = .next (yieldedState (measure s.cfg (remainingBytes s)).total s))
      ∧ ((measure s.cfg (remainingBytes s)).total = 0 → exec i s = .next (exhaustedState s))
      ∧ (0 < (measure s.cfg (remainingBytes s)).total → ¬ VaFits (measure s.cfg (remainingBytes s)).total s →
          exec i s = .next (faultedState .vaOverflow .vaOverflow s))

/-- R128, R156 to R169: under T_default an instruction of a one-byte opcode row, with no prefix and its operands in the
slice, yields 1 byte, what its addressing byte asks for, and the immediates of the row's fields. -/
def Obligations.OneByteRowsYieldTheirLength : Prop :=
  ∀ (i : Instr) (s : State) (f : OneFields) (op m x : Byte) (tail : List Byte), rowClass i = .one f →
    wellFormed s.cfg.arch i = true → RunsDefault s → Pullable s → encode i = [op] →
    remainingBytes s = op :: m :: x :: tail → 16 ≤ tail.length →
    VaFits (1 + (if f.modrm then 1 + addressingTail 4 m x else 0) + oneImmediate s.cfg.arch f m) s →
      exec i s
        = .next (yieldedState
            (1 + (if f.modrm then 1 + addressingTail 4 m x else 0) + oneImmediate s.cfg.arch f m) s)

/-- R128, R152, R154: the same for the two-byte rows and for the valid rows of the three-byte maps. -/
def Obligations.LongerRowsYieldTheirLength : Prop :=
  ∀ (i : Instr) (s : State) (m x : Byte) (tail : List Byte), RunsDefault s → Pullable s → 16 ≤ tail.length →
    remainingBytes s = encode i ++ m :: x :: tail →
      (∀ f, rowClass i = .two f → VaFits (2 + (if f.modrm then 1 + addressingTail 4 m x else 0) + twoImmediate f) s →
          exec i s
            = .next (yieldedState (2 + (if f.modrm then 1 + addressingTail 4 m x else 0) + twoImmediate f) s))
        ∧ (∀ imm8, rowClass i = .three imm8 → VaFits (4 + addressingTail 4 m x + (if imm8 then 1 else 0)) s →
            exec i s = .next (yieldedState (4 + addressingTail 4 m x + (if imm8 then 1 else 0)) s))

/-- R110, R111, R153: under T_default an instruction of an invalid row ends the sweep: NONE, EXH set, nothing else. -/
def Obligations.InvalidRowsEndTheSweep : Prop :=
  ∀ (i : Instr) (s : State), rowClass i = .invalid → RunsDefault s → Pullable s → encode i <+: remainingBytes s →
    exec i s = .next (exhaustedState s)

/-- R142, R145, R150, R152: under T_default a prefix row before 90 yields two bytes; an escape row goes on in its map,
and with no byte after it ends the sweep (R151). -/
def Obligations.PrefixAndEscapeRowsGoOn : Prop :=
  ∀ (i : Instr) (s : State) (tail : List Byte), RunsDefault s → Pullable s →
    ((rowClass i = .legacyPrefix ∨ (rowClass i = .rexPrefix ∧ s.cfg.arch = .x64)) →
        remainingBytes s = encode i ++ 0x90#8 :: tail → VaFits 2 s → exec i s = .next (yieldedState 2 s))
      ∧ (rowClass i = .escapeTwo → remainingBytes s = encode i ++ 0xA2#8 :: tail → VaFits 2 s →
          exec i s = .next (yieldedState 2 s))
      ∧ (rowClass i = .escapeThree false → remainingBytes s = encode i ++ 0x00#8 :: 0xC1#8 :: tail → VaFits 4 s →
          exec i s = .next (yieldedState 4 s))
      ∧ (rowClass i = .escapeThree true → remainingBytes s = encode i ++ 0x0F#8 :: 0xC1#8 :: 0x08#8 :: tail →
          VaFits 5 s → exec i s = .next (yieldedState 5 s))
      ∧ ((rowClass i = .escapeTwo ∨ rowClass i = .escapeThree false ∨ rowClass i = .escapeThree true) →
          remainingBytes s = encode i → exec i s = .next (exhaustedState s))

/-- The model's choices of assumption logs 9 and 11: the row that a pull meets has the pull's own effect. -/
def Obligations.PullHasTheEffectOfItsRow : Prop :=
  ∀ (i : Instr) (s : State), exec (resolve i s) s = exec i s

/-! Views. That a view operand is one the block has yielded is R181; that State holds the list of them is the model's choice,
assumption log 7. -/

/-- R184, R185: the length of a view and its bytes as the buffer is now. -/
def Obligations.ViewLengthAndBytes : Prop :=
  ∀ (s : State) (v : View), Usable v s →
    exec (.viewLen v) s = .next { s with resp := .length v.len }
      ∧ ∃ bs : List Byte, exec (.viewBytes v) s = .next { s with resp := .bytes bs } ∧ bs.length = v.len
          ∧ ∀ k, k < v.len → bs[k]? = some (s.mem.byteAt (v.base + k))

/-- R186 to R194, R54: a typed read inside the view answers the little-endian value of its bytes, unsigned or in two's
complement, and changes nothing. -/
def Obligations.TypedReadsAnswerLittleEndian : Prop :=
  ∀ (s : State) (v : View) (off : Nat), Usable v s →
    let value := fun w => ((List.range w).map fun k => 256 ^ k * (s.mem.byteAt (v.base + off + k)).toNat).sum
    (off + 1 ≤ v.len →
        exec (.viewReadU8 v off) s = .next { s with resp := .unsigned (value 1) }
          ∧ exec (.viewReadI8 v off) s
              = .next { s with resp := .signed (if value 1 ≤ 0x7F then (value 1 : Int) else (value 1 : Int) - 256) })
      ∧ (off + 2 ≤ v.len →
          exec (.viewReadU16 v off) s = .next { s with resp := .unsigned (value 2) }
            ∧ exec (.viewReadI16 v off) s
                = .next { s with resp := .signed (if value 2 ≤ 0x7FFF then (value 2 : Int) else (value 2 : Int) - 2 ^ 16) })
      ∧ (off + 4 ≤ v.len →
          exec (.viewReadU32 v off) s = .next { s with resp := .unsigned (value 4) }
            ∧ exec (.viewReadI32 v off) s
                = .next { s with resp := .signed (if value 4 < 2 ^ 31 then (value 4 : Int) else (value 4 : Int) - 2 ^ 32) })
      ∧ (off + 8 ≤ v.len →
          exec (.viewReadU64 v off) s = .next { s with resp := .unsigned (value 8) }
            ∧ exec (.viewReadI64 v off) s
                = .next { s with resp := .signed (if value 8 < 2 ^ 63 then (value 8 : Int) else (value 8 : Int) - 2 ^ 64) })

/-- R183, R253: a typed read outside the view faults, and so does a write through a mutable view; nothing but the latch
changes. -/
def Obligations.AccessOutsideTheViewFaults : Prop :=
  ∀ (i : Instr) (s : State) (v : View) (off w : Nat), s.fault = false → v ∈ s.views → v.len < off + w →
    (readWidth i = some (v, off, w) →
        exec i s = .next (faultedState .viewBounds (.viewBounds off w v.len) s))
      ∧ (∀ x, writeOperands i = some (v, off, w, x) → v.mutBit = true →
          exec i s = .next (faultedState .viewBounds (.viewBounds off w v.len) s))

/-- R254, R260: a typed write through a view with `mut = 0` faults, also where it is out of bounds. -/
def Obligations.WriteThroughImmutableViewFaults : Prop :=
  ∀ (i : Instr) (s : State) (v : View) (off w x : Nat), s.fault = false → v ∈ s.views → v.mutBit = false →
    writeOperands i = some (v, off, w, x) → exec i s = .next (faultedState .viewReadOnly .viewReadOnly s)

/-- R195 to R203: a typed write stores the bytes of its pattern, least significant first, at `base + off`, and changes
no other byte and no register. -/
def Obligations.TypedWritesStoreTheirBytes : Prop :=
  ∀ (i : Instr) (s : State) (v : View) (off w x : Nat), Usable v s → v.mutBit = true → off + w ≤ v.len →
    writeOperands i = some (v, off, w, x) →
      ∃ mem : Memory, exec i s = .next { s with mem := mem, resp := .done } ∧ mem.size = s.mem.size
        ∧ ∀ a, mem.byteAt a
            = if v.base + off ≤ a ∧ a < v.base + off + w then BitVec.ofNat 8 (x / 256 ^ (a - (v.base + off)))
              else s.mem.byteAt a

/-- R204, an inference of the spec's own from R186 and R195: a write followed by the read of the same shape answers
the value written; a signed write followed by the unsigned read answers the same bit pattern. -/
def Obligations.WriteThenReadAnswersTheValue : Prop :=
  ∀ (s t : State) (v : View) (off : Nat), Usable v s → v.mutBit = true →
    (∀ x, off + 1 ≤ v.len →
        (exec (.viewWriteU8 v off x) s = .next t →
            exec (.viewReadU8 v off) t = .next { t with resp := .unsigned x.toNat })
          ∧ (exec (.viewWriteI8 v off x) s = .next t →
              exec (.viewReadI8 v off) t = .next { t with resp := .signed x.toInt }
                ∧ exec (.viewReadU8 v off) t = .next { t with resp := .unsigned x.toNat }))
      ∧ (∀ x, off + 2 ≤ v.len →
          (exec (.viewWriteU16 v off x) s = .next t →
              exec (.viewReadU16 v off) t = .next { t with resp := .unsigned x.toNat })
            ∧ (exec (.viewWriteI16 v off x) s = .next t →
                exec (.viewReadI16 v off) t = .next { t with resp := .signed x.toInt }
                  ∧ exec (.viewReadU16 v off) t = .next { t with resp := .unsigned x.toNat }))
      ∧ (∀ x, off + 4 ≤ v.len →
          (exec (.viewWriteU32 v off x) s = .next t →
              exec (.viewReadU32 v off) t = .next { t with resp := .unsigned x.toNat })
            ∧ (exec (.viewWriteI32 v off x) s = .next t →
                exec (.viewReadI32 v off) t = .next { t with resp := .signed x.toInt }
                  ∧ exec (.viewReadU32 v off) t = .next { t with resp := .unsigned x.toNat }))
      ∧ (∀ x, off + 8 ≤ v.len →
          (exec (.viewWriteU64 v off x) s = .next t →
              exec (.viewReadU64 v off) t = .next { t with resp := .unsigned x.toNat })
            ∧ (exec (.viewWriteI64 v off x) s = .next t →
                exec (.viewReadI64 v off) t = .next { t with resp := .signed x.toInt }
                  ∧ exec (.viewReadU64 v off) t = .next { t with resp := .unsigned x.toNat }))

/-- R205: two views are equal when they have the same length and the same bytes, wherever they lie. -/
def Obligations.ViewEqComparesTheBytes : Prop :=
  ∀ (s : State) (a b : View), Usable a s → Usable b s →
    ∃ e : Bool, exec (.viewEq a b) s = .next { s with resp := .equal e }
      ∧ (e = true ↔ a.len = b.len ∧ ∀ k, k < a.len → s.mem.byteAt (a.base + k) = s.mem.byteAt (b.base + k))

/-- R206: lexicographic order of the bytes as unsigned numbers, a proper prefix first; EQ exactly when VIEW_EQ is
true. -/
def Obligations.ViewCmpIsLexicographic : Prop :=
  ∀ (s : State) (a b : View), Usable a s → Usable b s →
    let smaller := fun (p q : View) => ∃ n, n ≤ p.len ∧ n ≤ q.len
      ∧ (∀ k, k < n → s.mem.byteAt (p.base + k) = s.mem.byteAt (q.base + k))
      ∧ ((n = p.len ∧ n < q.len)
          ∨ (n < p.len ∧ n < q.len ∧ (s.mem.byteAt (p.base + n)).toNat < (s.mem.byteAt (q.base + n)).toNat))
    ∃ o : Ordering, exec (.viewCmp a b) s = .next { s with resp := .order o }
      ∧ (o = .lt ↔ smaller a b) ∧ (o = .gt ↔ smaller b a)
      ∧ (o = .eq ↔ exec (.viewEq a b) s = .next { s with resp := .equal true })

/-- R207: the hash (a number, by assumption log 6) is a function of the bytes alone. Two views with the same bytes have
the same hash, wherever they lie and in whichever two states they are hashed; within one state this holds of any two views
that VIEW_EQ finds equal. -/
def Obligations.ViewHashDependsOnTheBytes : Prop :=
  ∀ (s t : State) (a b : View), Usable a s → Usable b t →
    ∃ h k : Nat, exec (.viewHash a) s = .next { s with resp := .hash h }
      ∧ exec (.viewHash b) t = .next { t with resp := .hash k }
      ∧ (a.len = b.len → (∀ i, i < a.len → s.mem.byteAt (a.base + i) = t.mem.byteAt (b.base + i)) → h = k)
      ∧ (s = t → exec (.viewEq a b) s = .next { s with resp := .equal true } → h = k)

/-- R67, R209: a write through the view that a pull has just yielded leaves the bytes that the iterator has yet to
decode. -/
def Obligations.WriteThroughYieldedViewKeepsTheRest : Prop :=
  ∀ (s t u : State) (v : View) (va : VaWord) (i : Instr) (off w x : Nat), StateInv s →
    exec .iterNext s = .next t → t.resp = .yielded v va → writeOperands i = some (v, off, w, x) →
    exec i t = .next u → remainingBytes u = remainingBytes t ∧ u.cur = t.cur

/-- R289, R58: a write into the bytes of a view that the engine does not read leaves the decoded length of the view. -/
def Obligations.PatchOfUnreadBytesKeepsTheLength : Prop :=
  ∀ (s t : State) (v : View) (i : Instr) (off w x : Nat), tablesStructural s.cfg.tables = true → Usable v s →
    0 < (measure s.cfg (s.mem.slice v.base v.len)).total →
    bytesRead s.cfg (s.mem.slice v.base v.len) ≤ off → writeOperands i = some (v, off, w, x) → exec i s = .next t →
      measure t.cfg (t.mem.slice v.base v.len) = measure s.cfg (s.mem.slice v.base v.len)

/-! Outcomes and faults. -/

/-- R264: while FAULT = 1 every instruction but RESET is refused: it answers REFUSED(FCAUSE) and changes nothing. -/
def Obligations.LatchedBlockRefusesEverything : Prop :=
  ∀ (i : Instr) (s : State), i ≠ .reset → s.fault = true → exec i s = .next { s with resp := .refused s.fcause }

/-- R262 (a) to (d): a command that answers a fault has changed nothing but the latch. -/
def Obligations.FaultChangesOnlyTheLatch : Prop :=
  ∀ (i : Instr) (s t : State) (f : FaultInfo), exec i s = .next t → t.resp = .faulted f →
    t = faultedState (faultCause f) f s

/-- R258, R252: with no fault latched each command answers one of the outcomes of the table of R258, so no decode and no
pull answers a view or skip fault on any input. -/
def Obligations.EveryAnswerIsInTheOutcomeTable : Prop :=
  ∀ (i : Instr) (s t : State), s.fault = false → exec i s = .next t → mayAnswer i t.resp = true

/-- R44, R24, R37, R209: of the instructions only the typed writes change the buffer, and only inside their view; none
changes the length of the buffer or the instance. -/
def Obligations.OnlyTypedWritesChangeTheBuffer : Prop :=
  ∀ (i : Instr) (s t : State), exec i s = .next t →
    t.cfg = s.cfg ∧ t.mem.size = s.mem.size
      ∧ (writeOperands i = none → t.mem = s.mem)
      ∧ (∀ v off w x, writeOperands i = some (v, off, w, x) →
          ∀ a, (a < v.base ∨ v.base + v.len ≤ a) → t.mem.byteAt a = s.mem.byteAt a)

/-- The model's choice of assumption logs 7 and 8: operands the interface does not have are refused, each by its own
name. -/
def Obligations.OperandsOutsideTheInterfaceAreRefused : Prop :=
  ∀ (s : State) (base len : Nat) (va0 : VaWord) (m : Bool) (i : Instr) (v : View), s.fault = false →
    (s.mem.size < base + len →
        exec (.decodeBreakdown base len) s = .refused (.sliceOutsideBuffer base len)
          ∧ exec (.decodeLen base len) s = .refused (.sliceOutsideBuffer base len)
          ∧ exec (.iterStart base len va0 m) s = .refused (.sliceOutsideBuffer base len))
      ∧ (base + len ≤ s.mem.size → 2 ^ s.cfg.arch.vaw ≤ va0.toNat →
          exec (.iterStart base len va0 m) s = .refused (.addressTooWide va0))
      ∧ ((viewOperands i).head? = some v → v ∉ s.views → exec i s = .refused (.unknownView v))
      ∧ (∀ a, Usable a s → v ∉ s.views →
          exec (.viewEq a v) s = .refused (.unknownView v) ∧ exec (.viewCmp a v) s = .refused (.unknownView v))

/-! Runs. The host's actions in State, the canonical list of the buffer and the fault for an access outside it are the
model's, assumption logs 1, 5 and 13. -/

/-- R41: the reset state meets the invariant. -/
def Obligations.ResetStateMeetsTheInvariant : Prop := StateInv State.reset

/-- R43 (a), R28, R27, R180: every step keeps the invariant. -/
def Obligations.StepKeepsTheInvariant : Prop :=
  ∀ s t : State, StateInv s → step s = .next t → StateInv t

/-- R14, R58, R209: from a state that meets the invariant no step leaves the buffer. -/
def Obligations.NoStepLeavesTheBuffer : Prop :=
  ∀ (s : State) (r : Fault), StateInv s → step s ≠ .fault r

/-- R258: every instruction whose operands are values of the interface completes in every state that meets the
invariant. -/
def Obligations.IssuableInstructionsComplete : Prop :=
  ∀ (i : Instr) (s : State), StateInv s → issuable i s = true → ∃ t, exec i s = .next t

/-- A step runs the decoded command (the messages in State are the model's choice, assumption log 1): the message is
taken from the host's list and the command runs. A message that is no command is refused by name (assumption log 2), and
so is every command to an instance whose tables break R105 or R106 (R7; assumption log 17). -/
def Obligations.StepRunsTheDecodedCommand : Prop :=
  ∀ (s : State) (message : List Byte) (rest : List HostAct), s.host = .command message :: rest →
    (instanceAccepted s.cfg = true →
        (∀ i, decodeMessage message = .ok i →
            step s = exec (resolve i { s with host := rest }) { s with host := rest })
          ∧ ∀ e, decodeMessage message = .error e → step s = .refused (.malformedCommand e))
      ∧ (instanceAccepted s.cfg = false → step s = .refused .unacceptedInstance)

/-- R291, R271: a host write between commands sets that byte and nothing else, and outside the buffer it is refused by
name (assumption log 20); with nothing pending the block keeps its state. -/
def Obligations.HostWritesBetweenCommands : Prop :=
  (∀ (s : State) (a : Nat) (b : Byte) (rest : List HostAct), s.host = .write a b :: rest →
      (a < s.mem.size →
          ∃ mem : Memory, step s = .next { s with mem := mem, host := rest } ∧ mem.size = s.mem.size
            ∧ ∀ k, mem.byteAt k = if k = a then b else s.mem.byteAt k)
        ∧ (s.mem.size ≤ a → step s = .refused (.hostWriteOutside a)))
    ∧ ∀ s : State, s.host = [] → step s = .next s

/-! Encoding. -/

/-- The message form is the model's choice, assumption log 2: every well-formed command is read back from its message,
with what follows it left over. -/
def Obligations.CommandMessagesRoundTrip : Prop :=
  ∀ (arch : Arch) (i : Instr) (rest : List Byte), isCommand i = true → wellFormed arch i = true →
    decodeCommand (encode i ++ rest) = .ok (i, rest) ∧ decodeMessage (encode i) = .ok i

/-- Every byte-class row is read back from its bytes, whatever follows; an escape row when nothing follows. -/
def Obligations.RowBytesRoundTrip : Prop :=
  ∀ (arch : Arch) (i : Instr) (tail : List Byte), isCommand i = false → wellFormed arch i = true →
    (rowClass i = .escapeTwo ∨ rowClass i = .escapeThree false ∨ rowClass i = .escapeThree true → tail = []) →
      decodeText arch (encode i ++ tail) = .ok i

/-- R112, R128: every x86 text but the empty one has a row, whose bytes it begins with. -/
def Obligations.EveryTextBeginsWithItsRow : Prop :=
  ∀ (arch : Arch) (bs : List Byte), bs ≠ [] →
    ∃ i, decodeText arch bs = .ok i ∧ isCommand i = false ∧ wellFormed arch i = true ∧ encode i <+: bs

/-- Words written out from the opcode table and from the source's scenarios; the operands of the messages are written as
assumption log 2 has them, the model's choice. -/
def Obligations.WrittenOutWordsDecode : Prop :=
  decodeMessage [0x00#8] = .ok .reset ∧ decodeMessage [0x02#8, 0x04#8, 0x0D#8] = .ok (.decodeLen 4 13)
    ∧ decodeMessage [0x03#8, 0x00#8, 0x08#8, 0x00#8, 0x10#8, 0x00#8, 0x00#8, 0x00#8, 0x00#8, 0x00#8, 0x00#8, 0x00#8]
        = .ok (.iterStart 0 8 0x1000#64 false)
    ∧ decodeMessage [0x0E#8, 0x06#8, 0x04#8, 0x00#8, 0x01#8]
        = .ok (.viewReadI32 { base := 6, len := 5, mutBit := false } 1)
    ∧ decodeMessage [0x11#8, 0x00#8, 0x04#8, 0x01#8, 0x03#8, 0xEF#8, 0xBE#8]
        = .ok (.viewWriteU16 { base := 0, len := 5, mutBit := true } 3 0xBEEF#16)
    ∧ decodeText .x86 [0x40#8] = .ok (.b1_40_5F 0x00#5) ∧ decodeText .x64 [0x48#8, 0x83#8] = .ok (.rex_40_4F 0x8#4)
    ∧ decodeText .x86 [0xDD#8, 0x84#8] = .ok (.b1_D8_DF 0x5#3) ∧ decodeText .x64 [0x0F#8, 0xA2#8] = .ok .b2_0F_A2
    ∧ decodeText .x64 [0x0F#8, 0x38#8, 0xF0#8] = .ok (.b3_0F38_F0_F1 0x0#1)
    ∧ decodeText .x86 [0x0F#8, 0x3A#8, 0x0F#8] = .ok (.b3_0F3A_08_0F 0x7#3)
    ∧ decodeText .x86 [0x0F#8, 0x04#8] = .ok .b2_0F_04
end

