-- ==== Sys2Proof/Laws/State.lean ====
section
/-! SUPPORT. What every update of the state leaves in every field, and what the record updates of the fields of the host
and of the latch leave. -/

namespace Sys2Proof.Machine

@[simp] theorem setExhausted_cfg (s : State) : (setExhausted s).cfg = s.cfg := rfl
@[simp] theorem setExhausted_cur (s : State) : (setExhausted s).cur = s.cur := rfl
@[simp] theorem setExhausted_endIdx (s : State) : (setExhausted s).endIdx = s.endIdx := rfl
@[simp] theorem setExhausted_va (s : State) : (setExhausted s).va = s.va := rfl
@[simp] theorem setExhausted_exh (s : State) : (setExhausted s).exh = true := rfl
@[simp] theorem setExhausted_mutBit (s : State) : (setExhausted s).mutBit = s.mutBit := rfl
@[simp] theorem setExhausted_fault (s : State) : (setExhausted s).fault = s.fault := rfl
@[simp] theorem setExhausted_fcause (s : State) : (setExhausted s).fcause = s.fcause := rfl
@[simp] theorem setExhausted_mem (s : State) : (setExhausted s).mem = s.mem := rfl
@[simp] theorem setExhausted_views (s : State) : (setExhausted s).views = s.views := rfl
@[simp] theorem setExhausted_resp (s : State) : (setExhausted s).resp = s.resp := rfl
@[simp] theorem setExhausted_host (s : State) : (setExhausted s).host = s.host := rfl

@[simp] theorem clearExhausted_cfg (s : State) : (clearExhausted s).cfg = s.cfg := rfl
@[simp] theorem clearExhausted_cur (s : State) : (clearExhausted s).cur = s.cur := rfl
@[simp] theorem clearExhausted_endIdx (s : State) : (clearExhausted s).endIdx = s.endIdx := rfl
@[simp] theorem clearExhausted_va (s : State) : (clearExhausted s).va = s.va := rfl
@[simp] theorem clearExhausted_exh (s : State) : (clearExhausted s).exh = false := rfl
@[simp] theorem clearExhausted_mutBit (s : State) : (clearExhausted s).mutBit = s.mutBit := rfl
@[simp] theorem clearExhausted_fault (s : State) : (clearExhausted s).fault = s.fault := rfl
@[simp] theorem clearExhausted_fcause (s : State) : (clearExhausted s).fcause = s.fcause := rfl
@[simp] theorem clearExhausted_mem (s : State) : (clearExhausted s).mem = s.mem := rfl
@[simp] theorem clearExhausted_views (s : State) : (clearExhausted s).views = s.views := rfl
@[simp] theorem clearExhausted_resp (s : State) : (clearExhausted s).resp = s.resp := rfl
@[simp] theorem clearExhausted_host (s : State) : (clearExhausted s).host = s.host := rfl

@[simp] theorem loadMut_cfg (m : Bool) (s : State) : (loadMut m s).cfg = s.cfg := rfl
@[simp] theorem loadMut_cur (m : Bool) (s : State) : (loadMut m s).cur = s.cur := rfl
@[simp] theorem loadMut_endIdx (m : Bool) (s : State) : (loadMut m s).endIdx = s.endIdx := rfl
@[simp] theorem loadMut_va (m : Bool) (s : State) : (loadMut m s).va = s.va := rfl
@[simp] theorem loadMut_exh (m : Bool) (s : State) : (loadMut m s).exh = s.exh := rfl
@[simp] theorem loadMut_mutBit (m : Bool) (s : State) : (loadMut m s).mutBit = m := rfl
@[simp] theorem loadMut_fault (m : Bool) (s : State) : (loadMut m s).fault = s.fault := rfl
@[simp] theorem loadMut_fcause (m : Bool) (s : State) : (loadMut m s).fcause = s.fcause := rfl
@[simp] theorem loadMut_mem (m : Bool) (s : State) : (loadMut m s).mem = s.mem := rfl
@[simp] theorem loadMut_views (m : Bool) (s : State) : (loadMut m s).views = s.views := rfl
@[simp] theorem loadMut_resp (m : Bool) (s : State) : (loadMut m s).resp = s.resp := rfl
@[simp] theorem loadMut_host (m : Bool) (s : State) : (loadMut m s).host = s.host := rfl

@[simp] theorem setFaultLatch_cfg (c : FCause) (s : State) : (setFaultLatch c s).cfg = s.cfg := rfl
@[simp] theorem setFaultLatch_cur (c : FCause) (s : State) : (setFaultLatch c s).cur = s.cur := rfl
@[simp] theorem setFaultLatch_endIdx (c : FCause) (s : State) : (setFaultLatch c s).endIdx = s.endIdx := rfl
@[simp] theorem setFaultLatch_va (c : FCause) (s : State) : (setFaultLatch c s).va = s.va := rfl
@[simp] theorem setFaultLatch_exh (c : FCause) (s : State) : (setFaultLatch c s).exh = s.exh := rfl
@[simp] theorem setFaultLatch_mutBit (c : FCause) (s : State) : (setFaultLatch c s).mutBit = s.mutBit := rfl
@[simp] theorem setFaultLatch_fault (c : FCause) (s : State) : (setFaultLatch c s).fault = true := rfl
@[simp] theorem setFaultLatch_fcause (c : FCause) (s : State) : (setFaultLatch c s).fcause = c := rfl
@[simp] theorem setFaultLatch_mem (c : FCause) (s : State) : (setFaultLatch c s).mem = s.mem := rfl
@[simp] theorem setFaultLatch_views (c : FCause) (s : State) : (setFaultLatch c s).views = s.views := rfl
@[simp] theorem setFaultLatch_resp (c : FCause) (s : State) : (setFaultLatch c s).resp = s.resp := rfl
@[simp] theorem setFaultLatch_host (c : FCause) (s : State) : (setFaultLatch c s).host = s.host := rfl

@[simp] theorem clearFaultLatch_cfg (s : State) : (clearFaultLatch s).cfg = s.cfg := rfl
@[simp] theorem clearFaultLatch_cur (s : State) : (clearFaultLatch s).cur = s.cur := rfl
@[simp] theorem clearFaultLatch_endIdx (s : State) : (clearFaultLatch s).endIdx = s.endIdx := rfl
@[simp] theorem clearFaultLatch_va (s : State) : (clearFaultLatch s).va = s.va := rfl
@[simp] theorem clearFaultLatch_exh (s : State) : (clearFaultLatch s).exh = s.exh := rfl
@[simp] theorem clearFaultLatch_mutBit (s : State) : (clearFaultLatch s).mutBit = s.mutBit := rfl
@[simp] theorem clearFaultLatch_fault (s : State) : (clearFaultLatch s).fault = false := rfl
@[simp] theorem clearFaultLatch_fcause (s : State) : (clearFaultLatch s).fcause = .none := rfl
@[simp] theorem clearFaultLatch_mem (s : State) : (clearFaultLatch s).mem = s.mem := rfl
@[simp] theorem clearFaultLatch_views (s : State) : (clearFaultLatch s).views = s.views := rfl
@[simp] theorem clearFaultLatch_resp (s : State) : (clearFaultLatch s).resp = s.resp := rfl
@[simp] theorem clearFaultLatch_host (s : State) : (clearFaultLatch s).host = s.host := rfl

@[simp] theorem resetRegisters_cfg (s : State) : (resetRegisters s).cfg = s.cfg := rfl
@[simp] theorem resetRegisters_cur (s : State) : (resetRegisters s).cur = 0 := rfl
@[simp] theorem resetRegisters_endIdx (s : State) : (resetRegisters s).endIdx = 0 := rfl
@[simp] theorem resetRegisters_va (s : State) : (resetRegisters s).va = 0 := rfl
@[simp] theorem resetRegisters_exh (s : State) : (resetRegisters s).exh = false := rfl
@[simp] theorem resetRegisters_mutBit (s : State) : (resetRegisters s).mutBit = false := rfl
@[simp] theorem resetRegisters_fault (s : State) : (resetRegisters s).fault = false := rfl
@[simp] theorem resetRegisters_fcause (s : State) : (resetRegisters s).fcause = .none := rfl
@[simp] theorem resetRegisters_mem (s : State) : (resetRegisters s).mem = s.mem := rfl
@[simp] theorem resetRegisters_views (s : State) : (resetRegisters s).views = s.views := rfl
@[simp] theorem resetRegisters_resp (s : State) : (resetRegisters s).resp = s.resp := rfl
@[simp] theorem resetRegisters_host (s : State) : (resetRegisters s).host = s.host := rfl

@[simp] theorem consume_cfg (k : Nat) (s : State) : (consume k s).cfg = s.cfg := rfl
@[simp] theorem consume_cur (k : Nat) (s : State) : (consume k s).cur = s.cur + k := rfl
@[simp] theorem consume_endIdx (k : Nat) (s : State) : (consume k s).endIdx = s.endIdx := rfl
@[simp] theorem consume_va (k : Nat) (s : State) : (consume k s).va = s.va + BitVec.ofNat 64 k := rfl
@[simp] theorem consume_exh (k : Nat) (s : State) : (consume k s).exh = s.exh := rfl
@[simp] theorem consume_mutBit (k : Nat) (s : State) : (consume k s).mutBit = s.mutBit := rfl
@[simp] theorem consume_fault (k : Nat) (s : State) : (consume k s).fault = s.fault := rfl
@[simp] theorem consume_fcause (k : Nat) (s : State) : (consume k s).fcause = s.fcause := rfl
@[simp] theorem consume_mem (k : Nat) (s : State) : (consume k s).mem = s.mem := rfl
@[simp] theorem consume_views (k : Nat) (s : State) : (consume k s).views = s.views := rfl
@[simp] theorem consume_resp (k : Nat) (s : State) : (consume k s).resp = s.resp := rfl
@[simp] theorem consume_host (k : Nat) (s : State) : (consume k s).host = s.host := rfl

@[simp] theorem yieldView_cfg (n : Nat) (s : State) : (yieldView n s).cfg = s.cfg := rfl
@[simp] theorem yieldView_cur (n : Nat) (s : State) : (yieldView n s).cur = s.cur + n := rfl
@[simp] theorem yieldView_endIdx (n : Nat) (s : State) : (yieldView n s).endIdx = s.endIdx := rfl
@[simp] theorem yieldView_va (n : Nat) (s : State) : (yieldView n s).va = s.va + BitVec.ofNat 64 n := rfl
@[simp] theorem yieldView_exh (n : Nat) (s : State) : (yieldView n s).exh = s.exh := rfl
@[simp] theorem yieldView_mutBit (n : Nat) (s : State) : (yieldView n s).mutBit = s.mutBit := rfl
@[simp] theorem yieldView_fault (n : Nat) (s : State) : (yieldView n s).fault = s.fault := rfl
@[simp] theorem yieldView_fcause (n : Nat) (s : State) : (yieldView n s).fcause = s.fcause := rfl
@[simp] theorem yieldView_mem (n : Nat) (s : State) : (yieldView n s).mem = s.mem := rfl
@[simp] theorem yieldView_views (n : Nat) (s : State) : (yieldView n s).views = nextView n s :: s.views := rfl
@[simp] theorem yieldView_resp (n : Nat) (s : State) : (yieldView n s).resp = .yielded (nextView n s) s.va := rfl
@[simp] theorem yieldView_host (n : Nat) (s : State) : (yieldView n s).host = s.host := rfl

@[simp] theorem failPull_cfg (s : State) : (failPull s).cfg = s.cfg := rfl
@[simp] theorem failPull_cur (s : State) : (failPull s).cur = s.cur := rfl
@[simp] theorem failPull_endIdx (s : State) : (failPull s).endIdx = s.endIdx := rfl
@[simp] theorem failPull_va (s : State) : (failPull s).va = s.va := rfl
@[simp] theorem failPull_exh (s : State) : (failPull s).exh = true := rfl
@[simp] theorem failPull_mutBit (s : State) : (failPull s).mutBit = s.mutBit := rfl
@[simp] theorem failPull_fault (s : State) : (failPull s).fault = s.fault := rfl
@[simp] theorem failPull_fcause (s : State) : (failPull s).fcause = s.fcause := rfl
@[simp] theorem failPull_mem (s : State) : (failPull s).mem = s.mem := rfl
@[simp] theorem failPull_views (s : State) : (failPull s).views = s.views := rfl
@[simp] theorem failPull_resp (s : State) : (failPull s).resp = .nothing := rfl
@[simp] theorem failPull_host (s : State) : (failPull s).host = s.host := rfl

@[simp] theorem bindIterator_cfg (base len : Nat) (va0 : VaWord) (m : Bool) (s : State) : (bindIterator base len va0 m s).cfg = s.cfg := rfl
@[simp] theorem bindIterator_cur (base len : Nat) (va0 : VaWord) (m : Bool) (s : State) : (bindIterator base len va0 m s).cur = base := rfl
@[simp] theorem bindIterator_endIdx (base len : Nat) (va0 : VaWord) (m : Bool) (s : State) : (bindIterator base len va0 m s).endIdx = base + len := rfl
@[simp] theorem bindIterator_va (base len : Nat) (va0 : VaWord) (m : Bool) (s : State) : (bindIterator base len va0 m s).va = va0 := rfl
@[simp] theorem bindIterator_exh (base len : Nat) (va0 : VaWord) (m : Bool) (s : State) : (bindIterator base len va0 m s).exh = false := rfl
@[simp] theorem bindIterator_mutBit (base len : Nat) (va0 : VaWord) (m : Bool) (s : State) : (bindIterator base len va0 m s).mutBit = m := rfl
@[simp] theorem bindIterator_fault (base len : Nat) (va0 : VaWord) (m : Bool) (s : State) : (bindIterator base len va0 m s).fault = s.fault := rfl
@[simp] theorem bindIterator_fcause (base len : Nat) (va0 : VaWord) (m : Bool) (s : State) : (bindIterator base len va0 m s).fcause = s.fcause := rfl
@[simp] theorem bindIterator_mem (base len : Nat) (va0 : VaWord) (m : Bool) (s : State) : (bindIterator base len va0 m s).mem = s.mem := rfl
@[simp] theorem bindIterator_views (base len : Nat) (va0 : VaWord) (m : Bool) (s : State) : (bindIterator base len va0 m s).views = s.views := rfl
@[simp] theorem bindIterator_resp (base len : Nat) (va0 : VaWord) (m : Bool) (s : State) : (bindIterator base len va0 m s).resp = s.resp := rfl
@[simp] theorem bindIterator_host (base len : Nat) (va0 : VaWord) (m : Bool) (s : State) : (bindIterator base len va0 m s).host = s.host := rfl

@[simp] theorem yieldedState_cfg (n : Nat) (s : State) : (yieldedState n s).cfg = s.cfg := rfl
@[simp] theorem yieldedState_cur (n : Nat) (s : State) : (yieldedState n s).cur = s.cur + n := rfl
@[simp] theorem yieldedState_endIdx (n : Nat) (s : State) : (yieldedState n s).endIdx = s.endIdx := rfl
@[simp] theorem yieldedState_va (n : Nat) (s : State) : (yieldedState n s).va = BitVec.ofNat 64 (s.va.toNat + n) := rfl
@[simp] theorem yieldedState_exh (n : Nat) (s : State) : (yieldedState n s).exh = s.exh := rfl
@[simp] theorem yieldedState_mutBit (n : Nat) (s : State) : (yieldedState n s).mutBit = s.mutBit := rfl
@[simp] theorem yieldedState_fault (n : Nat) (s : State) : (yieldedState n s).fault = s.fault := rfl
@[simp] theorem yieldedState_fcause (n : Nat) (s : State) : (yieldedState n s).fcause = s.fcause := rfl
@[simp] theorem yieldedState_mem (n : Nat) (s : State) : (yieldedState n s).mem = s.mem := rfl
@[simp] theorem yieldedState_views (n : Nat) (s : State) : (yieldedState n s).views = View.mk s.cur n s.mutBit :: s.views := rfl
@[simp] theorem yieldedState_resp (n : Nat) (s : State) : (yieldedState n s).resp = .yielded (View.mk s.cur n s.mutBit) s.va := rfl
@[simp] theorem yieldedState_host (n : Nat) (s : State) : (yieldedState n s).host = s.host := rfl

@[simp] theorem exhaustedState_cfg (s : State) : (exhaustedState s).cfg = s.cfg := rfl
@[simp] theorem exhaustedState_cur (s : State) : (exhaustedState s).cur = s.cur := rfl
@[simp] theorem exhaustedState_endIdx (s : State) : (exhaustedState s).endIdx = s.endIdx := rfl
@[simp] theorem exhaustedState_va (s : State) : (exhaustedState s).va = s.va := rfl
@[simp] theorem exhaustedState_exh (s : State) : (exhaustedState s).exh = true := rfl
@[simp] theorem exhaustedState_mutBit (s : State) : (exhaustedState s).mutBit = s.mutBit := rfl
@[simp] theorem exhaustedState_fault (s : State) : (exhaustedState s).fault = s.fault := rfl
@[simp] theorem exhaustedState_fcause (s : State) : (exhaustedState s).fcause = s.fcause := rfl
@[simp] theorem exhaustedState_mem (s : State) : (exhaustedState s).mem = s.mem := rfl
@[simp] theorem exhaustedState_views (s : State) : (exhaustedState s).views = s.views := rfl
@[simp] theorem exhaustedState_resp (s : State) : (exhaustedState s).resp = .nothing := rfl
@[simp] theorem exhaustedState_host (s : State) : (exhaustedState s).host = s.host := rfl

@[simp] theorem faultedState_cfg (c : FCause) (f : FaultInfo) (s : State) : (faultedState c f s).cfg = s.cfg := rfl
@[simp] theorem faultedState_cur (c : FCause) (f : FaultInfo) (s : State) : (faultedState c f s).cur = s.cur := rfl
@[simp] theorem faultedState_endIdx (c : FCause) (f : FaultInfo) (s : State) : (faultedState c f s).endIdx = s.endIdx := rfl
@[simp] theorem faultedState_va (c : FCause) (f : FaultInfo) (s : State) : (faultedState c f s).va = s.va := rfl
@[simp] theorem faultedState_exh (c : FCause) (f : FaultInfo) (s : State) : (faultedState c f s).exh = s.exh := rfl
@[simp] theorem faultedState_mutBit (c : FCause) (f : FaultInfo) (s : State) : (faultedState c f s).mutBit = s.mutBit := rfl
@[simp] theorem faultedState_fault (c : FCause) (f : FaultInfo) (s : State) : (faultedState c f s).fault = true := rfl
@[simp] theorem faultedState_fcause (c : FCause) (f : FaultInfo) (s : State) : (faultedState c f s).fcause = c := rfl
@[simp] theorem faultedState_mem (c : FCause) (f : FaultInfo) (s : State) : (faultedState c f s).mem = s.mem := rfl
@[simp] theorem faultedState_views (c : FCause) (f : FaultInfo) (s : State) : (faultedState c f s).views = s.views := rfl
@[simp] theorem faultedState_resp (c : FCause) (f : FaultInfo) (s : State) : (faultedState c f s).resp = .faulted f := rfl
@[simp] theorem faultedState_host (c : FCause) (f : FaultInfo) (s : State) : (faultedState c f s).host = s.host := rfl

@[simp] theorem issueCommand_cfg (i : Instr) (s : State) : (issueCommand i s).cfg = s.cfg := rfl
@[simp] theorem issueCommand_cur (i : Instr) (s : State) : (issueCommand i s).cur = s.cur := rfl
@[simp] theorem issueCommand_endIdx (i : Instr) (s : State) : (issueCommand i s).endIdx = s.endIdx := rfl
@[simp] theorem issueCommand_va (i : Instr) (s : State) : (issueCommand i s).va = s.va := rfl
@[simp] theorem issueCommand_exh (i : Instr) (s : State) : (issueCommand i s).exh = s.exh := rfl
@[simp] theorem issueCommand_mutBit (i : Instr) (s : State) : (issueCommand i s).mutBit = s.mutBit := rfl
@[simp] theorem issueCommand_fault (i : Instr) (s : State) : (issueCommand i s).fault = s.fault := rfl
@[simp] theorem issueCommand_fcause (i : Instr) (s : State) : (issueCommand i s).fcause = s.fcause := rfl
@[simp] theorem issueCommand_mem (i : Instr) (s : State) : (issueCommand i s).mem = s.mem := rfl
@[simp] theorem issueCommand_views (i : Instr) (s : State) : (issueCommand i s).views = viewOperands i ++ s.views := rfl
@[simp] theorem issueCommand_resp (i : Instr) (s : State) : (issueCommand i s).resp = s.resp := rfl
@[simp] theorem issueCommand_host (i : Instr) (s : State) : (issueCommand i s).host = .command (encode i) :: s.host := rfl

@[simp] theorem setByte_size (m : Memory) (a : Nat) (b : Byte) : (m.setByte a b).size = m.size := rfl

@[simp] theorem nextView_base (n : Nat) (s : State) : (nextView n s).base = s.cur := rfl
@[simp] theorem nextView_len (n : Nat) (s : State) : (nextView n s).len = n := rfl
@[simp] theorem nextView_mutBit (n : Nat) (s : State) : (nextView n s).mutBit = s.mutBit := rfl

end Sys2Proof.Machine
end

