-- ==== Sys2Proof/Laws/Memory.lean ====
section
/-! SUPPORT. The buffer: reads after writes, the length, the canonical form, and the value of its bytes. -/

namespace Sys2Proof.Machine

open Host

/-! Reads after writes. -/

theorem cellAt_cellInsert (cs : List Cell) (a : Nat) (b : Byte) (k : Nat) :
    cellAt (cellInsert cs a b) k = if k = a then b else cellAt cs k := by
  induction cs with
  | nil => rfl
  | cons c rest ih =>
    obtain ⟨i, d⟩ := c
    simp only [cellInsert]
    split_ifs with h1 h2 <;> simp only [cellAt, ih] <;> split_ifs <;> first | rfl | omega

theorem cellAt_remove (cs : List Cell) (a k : Nat) :
    cellAt (cs.filter fun c => c.1 != a) k = if k = a then unlistedByte else cellAt cs k := by
  induction cs with
  | nil => simp [cellAt]
  | cons c rest ih =>
    obtain ⟨i, d⟩ := c
    by_cases h : i = a
    · simp only [h, List.filter, bne_self_eq_false, cellAt, ih]
      split_ifs <;> rfl
    · simp only [List.filter, bne_iff_ne.mpr h, cellAt, ih]
      split_ifs <;> first | rfl | omega

theorem cellAt_cellSet (cs : List Cell) (a : Nat) (b : Byte) (k : Nat) :
    cellAt (cellSet cs a b) k = if k = a then b else cellAt cs k := by
  unfold cellSet
  split_ifs with h
  · simp_all [cellAt_remove]
  · simp_all [cellAt_remove]
  all_goals simp_all [cellAt_cellInsert]

/-- A byte written is read back, and every other byte reads as before. -/
@[simp] theorem byteAt_setByte (m : Memory) (a : Nat) (b : Byte) (k : Nat) :
    (m.setByte a b).byteAt k = if k = a then b else m.byteAt k := cellAt_cellSet ..

@[simp] theorem setBytes_size (m : Memory) (addr : Nat) (bs : List Byte) : (m.setBytes addr bs).size = m.size := by
  induction bs generalizing m addr with
  | nil => rfl
  | cons b rest ih => simp [Memory.setBytes, ih]

/-- Every byte after a write of several: the ones inside are those written, the others as before. -/
theorem byteAt_setBytes (m : Memory) (addr : Nat) (bs : List Byte) (k : Nat) :
    (m.setBytes addr bs).byteAt k
      = if addr ≤ k then (bs[k - addr]?).getD (m.byteAt k) else m.byteAt k := by
  induction bs generalizing m addr with
  | nil => simp [Memory.setBytes]
  | cons b rest ih =>
    simp only [Memory.setBytes, ih, byteAt_setByte]
    rcases Nat.lt_trichotomy addr k with h | h | h
    · obtain ⟨d, rfl⟩ := Nat.exists_eq_add_of_lt h
      rw [if_pos (by omega), if_neg (by omega), if_pos (by omega), show addr + d + 1 - addr = d + 1 by omega,
        show addr + d + 1 - (addr + 1) = d by omega, List.getElem?_cons_succ]
    · subst h
      simp
    · rw [if_neg (by omega), if_neg (by omega), if_neg (by omega)]

@[simp] theorem write_size (m : Memory) (addr n v : Nat) : (m.write addr n v).size = m.size := setBytes_size ..

@[simp] theorem leBytes_length (w v : Nat) : (leBytes w v).length = w := by
  induction w generalizing v with
  | zero => rfl
  | succ w ih => simp [leBytes, ih]

theorem leBytes_getElem? (w v k : Nat) (h : k < w) : (leBytes w v)[k]? = some (BitVec.ofNat 8 (v / 256 ^ k)) := by
  induction w generalizing v k with
  | zero => omega
  | succ w ih =>
    cases k with
    | zero => simp [leBytes]
    | succ k => simp [leBytes, ih (v / 256) k (by omega), Nat.div_div_eq_div_mul, Nat.pow_succ, Nat.mul_comm]

/-- R14: `MemWrite(addr, n, v)` sets the bytes `addr` to `addr + n - 1` and no other. -/
theorem byteAt_write (m : Memory) (addr n v k : Nat) :
    (m.write addr n v).byteAt k
      = if addr ≤ k ∧ k < addr + n then BitVec.ofNat 8 (v / 256 ^ (k - addr)) else m.byteAt k := by
  rw [Memory.write, byteAt_setBytes]
  by_cases h1 : addr ≤ k
  · by_cases h2 : k < addr + n
    · rw [if_pos h1, if_pos ⟨h1, h2⟩, leBytes_getElem? _ _ _ (by omega)]
      rfl
    · rw [if_pos h1, if_neg (by omega), List.getElem?_eq_none (by simp; omega)]
      rfl
  · rw [if_neg h1, if_neg (by omega)]

/-! Slices. -/

@[simp] theorem slice_length (m : Memory) (base len : Nat) : (m.slice base len).length = len := by
  simp [Memory.slice]

theorem slice_getElem? (m : Memory) (base len k : Nat) (h : k < len) :
    (m.slice base len)[k]? = some (m.byteAt (base + k)) := by
  simp [Memory.slice, h]

/-- Slices are equal when their bytes are. -/
theorem slice_congr (m m' : Memory) (base base' len : Nat)
    (h : ∀ k, k < len → m.byteAt (base + k) = m'.byteAt (base' + k)) : m.slice base len = m'.slice base' len := by
  simp only [Memory.slice]
  exact List.map_congr_left fun k hk => h k (List.mem_range.mp hk)

theorem slice_drop (m : Memory) (base len k : Nat) :
    (m.slice base len).drop k = m.slice (base + k) (len - k) := by
  apply List.ext_getElem?
  intro j
  by_cases h : k + j < len
  · rw [List.getElem?_drop, slice_getElem? _ _ _ _ h, slice_getElem? _ _ _ _ (by omega), Nat.add_assoc]
  · rw [List.getElem?_eq_none (by simp; omega), List.getElem?_eq_none (by simp; omega)]

/-! The value of bytes (R14, R54). -/

theorem leValue_leBytes (w v : Nat) : leValue (leBytes w v) = v % 256 ^ w := by
  induction w generalizing v with
  | zero => simp [leBytes, leValue, Nat.mod_one]
  | succ w ih =>
    simp only [leBytes, leValue, ih, BitVec.toNat_ofNat]
    rw [show 256 ^ (w + 1) = 256 * 256 ^ w from Nat.pow_succ', Nat.mod_mul]

theorem leValue_lt (bs : List Byte) : leValue bs < 256 ^ bs.length := by
  induction bs with
  | nil => simp [leValue]
  | cons b rest ih =>
    simp only [leValue, List.length_cons, Nat.pow_succ]
    have := b.isLt
    omega

/-- R14: the value read back is the value written, in as many bytes. -/
theorem read_write (m : Memory) (addr n v : Nat) : (m.write addr n v).read addr n = v % 256 ^ n := by
  have : (m.write addr n v).slice addr n = leBytes n v := by
    apply List.ext_getElem?
    intro k
    by_cases h : k < n
    · rw [slice_getElem? _ _ _ _ h, leBytes_getElem? _ _ _ h, byteAt_write, if_pos (by omega), Nat.add_sub_cancel_left]
    · rw [List.getElem?_eq_none (by simp; omega), List.getElem?_eq_none (by simp; omega)]
  rw [Memory.read, this, leValue_leBytes]

/-! The canonical form. -/

theorem cellsWf_weaken (cs : List Cell) (lo lo' size : Nat) (h : lo' ≤ lo) (hw : cellsWf lo size cs = true) :
    cellsWf lo' size cs = true := by
  cases cs with
  | nil => rfl
  | cons c rest =>
    simp only [cellsWf, Bool.and_eq_true, decide_eq_true_eq] at hw ⊢
    exact ⟨⟨⟨by omega, hw.1.1.2⟩, hw.1.2⟩, hw.2⟩

theorem cellsWf_remove (cs : List Cell) (lo size a : Nat) (h : cellsWf lo size cs = true) :
    cellsWf lo size (cs.filter fun c => c.1 != a) = true := by
  induction cs generalizing lo with
  | nil => rfl
  | cons c rest ih =>
    obtain ⟨i, d⟩ := c
    simp only [cellsWf, Bool.and_eq_true, decide_eq_true_eq] at h
    simp only [List.filter]
    split
    · simp only [cellsWf, Bool.and_eq_true, decide_eq_true_eq]
      exact ⟨h.1, ih _ h.2⟩
    · exact cellsWf_weaken _ (i + 1) lo size (by omega) (ih _ h.2)

theorem cellsWf_cellInsert (cs : List Cell) (lo size a : Nat) (b : Byte) (h : cellsWf lo size cs = true) (ha : lo ≤ a)
    (hs : a < size) (hb : b ≠ unlistedByte) : cellsWf lo size (cellInsert cs a b) = true := by
  induction cs generalizing lo with
  | nil => simp [cellInsert, cellsWf, ha, hs, hb]
  | cons c rest ih =>
    obtain ⟨i, d⟩ := c
    simp only [cellsWf, Bool.and_eq_true, decide_eq_true_eq] at h
    simp only [cellInsert]
    split_ifs with h1 h2
    · simp only [cellsWf, Bool.and_eq_true, decide_eq_true_eq]
      exact ⟨⟨⟨ha, hs⟩, bne_iff_ne.mpr hb⟩, ⟨⟨h1, h.1.1.2⟩, h.1.2⟩, h.2⟩
    · subst h2
      simp only [cellsWf, Bool.and_eq_true, decide_eq_true_eq]
      exact ⟨⟨⟨ha, hs⟩, bne_iff_ne.mpr hb⟩, h.2⟩
    · simp only [cellsWf, Bool.and_eq_true, decide_eq_true_eq]
      exact ⟨h.1, ih _ h.2 (by omega)⟩

/-- A write of one byte inside the buffer keeps the canonical form. -/
theorem wf_setByte (m : Memory) (a : Nat) (b : Byte) (h : m.wf = true) (ha : a < m.size) :
    (m.setByte a b).wf = true := by
  simp only [Memory.wf, Memory.setByte, cellSet]
  split_ifs with hb
  · exact cellsWf_remove _ _ _ _ h
  · exact cellsWf_cellInsert _ _ _ _ _ h (by omega) ha hb

/-- A write of several bytes inside the buffer keeps the canonical form. -/
theorem wf_setBytes (m : Memory) (addr : Nat) (bs : List Byte) (h : m.wf = true) (ha : addr + bs.length ≤ m.size) :
    (m.setBytes addr bs).wf = true := by
  induction bs generalizing m addr with
  | nil => exact h
  | cons b rest ih =>
    simp only [List.length_cons] at ha
    exact ih _ _ (wf_setByte _ _ _ h (by omega)) (by simp; omega)

/-- R14: `MemWrite` inside the buffer keeps the canonical form. -/
theorem wf_write (m : Memory) (addr n v : Nat) (h : m.wf = true) (ha : addr + n ≤ m.size) :
    (m.write addr n v).wf = true := wf_setBytes _ _ _ h (by simpa using ha)

/-- The buffer of the reset state is in canonical form. -/
theorem wf_reset : State.reset.mem.wf = true := rfl

/-- Two canonical buffers of one length with the same bytes are the same. -/
theorem cells_ext (size lo : Nat) (xs ys : List Cell) (hx : cellsWf lo size xs = true) (hy : cellsWf lo size ys = true)
    (h : ∀ a, cellAt xs a = cellAt ys a) : xs = ys := by
  have below : ∀ (cs : List Cell) (lo j : Nat), cellsWf lo size cs = true → j < lo → cellAt cs j = unlistedByte := by
    intro cs
    induction cs with
    | nil => intros; rfl
    | cons c rest ih =>
      intro lo j h hj
      simp only [cellsWf, Bool.and_eq_true, decide_eq_true_eq] at h
      simp only [cellAt]
      rw [if_neg (by omega), ih (c.1 + 1) j h.2 (by omega)]
  induction xs generalizing lo ys with
  | nil =>
    cases ys with
    | nil => rfl
    | cons y ys =>
      simp only [cellsWf, Bool.and_eq_true, decide_eq_true_eq, bne_iff_ne] at hy
      have := h y.1
      simp [cellAt] at this
      exact absurd this.symm hy.1.2
  | cons x xs ih =>
    cases ys with
    | nil =>
      simp only [cellsWf, Bool.and_eq_true, decide_eq_true_eq, bne_iff_ne] at hx
      have := h x.1
      simp [cellAt] at this
      exact absurd this hx.1.2
    | cons y ys =>
      simp only [cellsWf, Bool.and_eq_true, decide_eq_true_eq, bne_iff_ne] at hx hy
      have hk : x.1 = y.1 := by
        rcases Nat.lt_trichotomy x.1 y.1 with hl | he | hl
        · have := h x.1
          simp only [cellAt, if_true] at this
          rw [if_neg (by omega), below ys _ _ hy.2 (by omega)] at this
          exact absurd this hx.1.2
        · exact he
        · have := h y.1
          simp only [cellAt, if_true] at this
          rw [if_neg (by omega), below xs _ _ hx.2 (by omega)] at this
          exact absurd this.symm hy.1.2
      have hv : x.2 = y.2 := by
        have := h x.1
        simpa [cellAt, hk] using this
      have hr : xs = ys := by
        refine ih (x.1 + 1) ys hx.2 (hk ▸ hy.2) fun a => ?_
        rcases Nat.lt_or_ge x.1 a with hl | hl
        · have := h a
          simp only [cellAt] at this
          rwa [if_neg (by omega), if_neg (by omega)] at this
        · rw [below xs _ _ hx.2 (by omega), below ys _ _ (hk ▸ hy.2) (by omega)]
      rw [hr, Prod.ext hk hv]

end Sys2Proof.Machine
end

