-- ==== Sys2Proof/Laws/Ops.lean ====
section
/-! SUPPORT. What each shared operation can do, said once: its outcome in every case, and what follows when it answers a
next state. -/

namespace Sys2Proof.Machine

open Host

/-! Refusal and faults (R262, R264). -/

theorem unlessLatched_clear {s : State} (h : s.fault = false) (run : Outcome State Fault Refusal) :
    unlessLatched s run = run := by simp [unlessLatched, h]

theorem unlessLatched_latched {s : State} (h : s.fault = true) (run : Outcome State Fault Refusal) :
    unlessLatched s run = .next { s with resp := .refused s.fcause } := by simp [unlessLatched, h, answer]

theorem unlessLatched_eq {s : State} {run o : Outcome State Fault Refusal} (h : unlessLatched s run = o) :
    (s.fault = true ∧ o = .next { s with resp := .refused s.fcause }) ∨ (s.fault = false ∧ run = o) := by
  rcases Bool.eq_false_or_eq_true s.fault with hf | hf
  · exact .inl ⟨hf, by rw [← h, unlessLatched_latched hf]⟩
  · exact .inr ⟨hf, by rwa [unlessLatched_clear hf] at h⟩

theorem takeFault_eq (f : FaultInfo) (s : State) : takeFault f s = .next (faultedState (faultCause f) f s) := rfl

theorem answer_eq (r : Response) (s : State) : answer r s = .next { s with resp := r } := rfl

/-! Operands (R50, R28, R180 to R183, R223). -/

theorem holds_iff (m : Memory) (addr n : Nat) : m.holds addr n = true ↔ addr + n ≤ m.size := by simp [Memory.holds]

theorem withSlice_inside {s : State} {base len : Nat} (h : base + len ≤ s.mem.size)
    (run : List Byte → Outcome State Fault Refusal) : withSlice base len s run = run (s.mem.slice base len) := by
  simp [withSlice, Memory.holds, h]

theorem withSlice_outside {s : State} {base len : Nat} (h : s.mem.size < base + len)
    (run : List Byte → Outcome State Fault Refusal) :
    withSlice base len s run = .refused (.sliceOutsideBuffer base len) := by
  simp [withSlice, Memory.holds, h]

theorem withSlice_next {s t : State} {base len : Nat} {run : List Byte → Outcome State Fault Refusal}
    (h : withSlice base len s run = .next t) : base + len ≤ s.mem.size ∧ run (s.mem.slice base len) = .next t := by
  rcases Nat.lt_or_ge s.mem.size (base + len) with hl | hl
  · simp [withSlice_outside hl] at h
  · exact ⟨hl, by rwa [withSlice_inside hl] at h⟩

theorem withRemaining_inside {s : State} (h : s.cur ≤ s.endIdx) (hs : s.endIdx ≤ s.mem.size)
    (run : List Byte → Outcome State Fault Refusal) : withRemaining s run = run (remainingBytes s) := by
  have : s.mem.holds s.cur (s.endIdx - s.cur) = true := by rw [holds_iff]; omega
  simp [withRemaining, this, remainingBytes]

theorem withRemaining_next {s t : State} {run : List Byte → Outcome State Fault Refusal}
    (h : withRemaining s run = .next t) :
    s.cur + (s.endIdx - s.cur) ≤ s.mem.size ∧ run (remainingBytes s) = .next t := by
  unfold withRemaining at h
  split at h
  · exact ⟨(holds_iff ..).mp ‹_›, h⟩
  · cases h

theorem withView_held {s : State} {v : View} (h : v ∈ s.views) (run : Outcome State Fault Refusal) :
    withView v s run = run := by simp [withView, h]

theorem withView_unknown {s : State} {v : View} (h : v ∉ s.views) (run : Outcome State Fault Refusal) :
    withView v s run = .refused (.unknownView v) := by simp [withView, h]

theorem withView_next {s t : State} {v : View} {run : Outcome State Fault Refusal} (h : withView v s run = .next t) :
    v ∈ s.views ∧ run = .next t := by
  by_cases hv : v ∈ s.views
  · exact ⟨hv, by rwa [withView_held hv] at h⟩
  · simp [withView_unknown hv] at h

theorem withViewBytes_held {s : State} {v : View} (h : v ∈ s.views) (hs : v.base + v.len ≤ s.mem.size)
    (run : List Byte → Outcome State Fault Refusal) : withViewBytes v s run = run (s.mem.slice v.base v.len) := by
  simp [withViewBytes, withView, h, Memory.holds, hs]

theorem withViewBytes_unknown {s : State} {v : View} (h : v ∉ s.views)
    (run : List Byte → Outcome State Fault Refusal) : withViewBytes v s run = .refused (.unknownView v) := by
  simp [withViewBytes, withView, h]

theorem withViewBytes_next {s t : State} {v : View} {run : List Byte → Outcome State Fault Refusal}
    (h : withViewBytes v s run = .next t) :
    v ∈ s.views ∧ v.base + v.len ≤ s.mem.size ∧ run (s.mem.slice v.base v.len) = .next t := by
  obtain ⟨hv, h⟩ := withView_next h
  split at h
  · exact ⟨hv, (holds_iff ..).mp ‹_›, h⟩
  · cases h

theorem withAccess_inside {s : State} {v : View} {off w : Nat} (h : off + w ≤ v.len)
    (hs : v.base + v.len ≤ s.mem.size) (run : Nat → Outcome State Fault Refusal) :
    withAccess v off w s run = run (v.base + off) := by
  have h2 : s.mem.holds (v.base + off) w = true := by rw [holds_iff]; omega
  simp [withAccess, Nat.not_lt.mpr h, h2]

theorem withAccess_outside {s : State} {v : View} {off w : Nat} (h : v.len < off + w)
    (run : Nat → Outcome State Fault Refusal) :
    withAccess v off w s run = .next (faultedState .viewBounds (.viewBounds off w v.len) s) := by
  simp [withAccess, h, takeFault_eq, faultCause]

theorem withAccess_next {s t : State} {v : View} {off w : Nat} {run : Nat → Outcome State Fault Refusal}
    (h : withAccess v off w s run = .next t) :
    (v.len < off + w ∧ t = faultedState .viewBounds (.viewBounds off w v.len) s)
      ∨ (off + w ≤ v.len ∧ v.base + off + w ≤ s.mem.size ∧ run (v.base + off) = .next t) := by
  rcases Nat.lt_or_ge v.len (off + w) with hl | hl
  · rw [withAccess_outside hl] at h
    exact .inl ⟨hl, by cases h; rfl⟩
  · simp only [withAccess, Nat.not_lt.mpr hl, if_false] at h
    split at h
    · exact .inr ⟨hl, (holds_iff ..).mp ‹_›, h⟩
    · cases h

theorem withAddress_fits {s : State} {va0 : VaWord} (h : va0.toNat < 2 ^ s.cfg.arch.vaw)
    (run : Outcome State Fault Refusal) : withAddress va0 s run = run := by simp [withAddress, h]

theorem withAddress_next {s t : State} {va0 : VaWord} {run : Outcome State Fault Refusal}
    (h : withAddress va0 s run = .next t) : va0.toNat < 2 ^ s.cfg.arch.vaw ∧ run = .next t := by
  unfold withAddress at h
  split at h
  · exact ⟨‹_›, h⟩
  · cases h

/-! The pull (R225 to R228, R231). -/

theorem vaOverflows_eq_false {k : Nat} {s : State} : vaOverflows k s = false ↔ VaFits k s := by
  simp [vaOverflows, VaFits]

theorem vaw_le (arch : Arch) : 2 ^ arch.vaw ≤ 2 ^ 64 := by cases arch <;> decide

/-- Where the address fits, it advances without wrapping (R228, R231). -/
theorem consume_va_toNat {k : Nat} {s : State} (h : VaFits k s) :
    (s.va + BitVec.ofNat 64 k).toNat = s.va.toNat + k := by
  have h1 := vaw_le s.cfg.arch
  have h2 : 0 < 2 ^ s.cfg.arch.vaw := Nat.two_pow_pos _
  simp only [VaFits] at h
  rw [BitVec.toNat_add, BitVec.toNat_ofNat, Nat.add_mod_mod, Nat.mod_eq_of_lt (by omega)]

theorem ofNat_va_add (k : Nat) (s : State) : BitVec.ofNat 64 (s.va.toNat + k) = s.va + BitVec.ofNat 64 k := by
  apply BitVec.eq_of_toNat_eq
  simp [BitVec.toNat_add]

theorem yieldView_eq (n : Nat) (s : State) : yieldView n s = yieldedState n s := by
  simp [yieldView, yieldedState, consume, nextView, ofNat_va_add]

theorem failPull_eq (s : State) : failPull s = exhaustedState s := rfl

/-- Everything a pull on a text can do. -/
theorem pullText_eq (text : List Byte) (s : State) :
    pullText text s
      = if (measure s.cfg text).total = 0 then .next (exhaustedState s)
        else if VaFits (measure s.cfg text).total s then .next (yieldedState (measure s.cfg text).total s)
        else .next (faultedState .vaOverflow .vaOverflow s) := by
  simp only [pullText, failPull_eq, yieldView_eq, takeFault_eq, faultCause]
  split_ifs with h1 h2 h3 h3
  · rfl
  · exact absurd (vaOverflows_eq_false.mpr h3) (by simp [h2])
  · rfl
  · rfl
  · exact absurd (vaOverflows_eq_false.mp (by simpa using h2)) h3

theorem unlessExhausted_runs {s : State} (hf : s.fault = false) (he : s.cfg.exhLatch = true → s.exh = false)
    (run : Outcome State Fault Refusal) : unlessExhausted s run = run := by
  rw [unlessExhausted, unlessLatched_clear hf]
  cases hl : s.cfg.exhLatch <;> simp_all

theorem unlessExhausted_next {s t : State} {run : Outcome State Fault Refusal}
    (h : unlessExhausted s run = .next t) :
    (s.fault = true ∧ t = { s with resp := .refused s.fcause })
      ∨ (s.fault = false ∧ s.cfg.exhLatch = true ∧ s.exh = true ∧ t = { s with resp := .nothing })
      ∨ (s.fault = false ∧ (s.cfg.exhLatch = true → s.exh = false) ∧ run = .next t) := by
  rcases unlessLatched_eq h with ⟨hf, h⟩ | ⟨hf, h⟩
  · exact .inl ⟨hf, by cases h; rfl⟩
  · split at h
    · rename_i hc
      simp only [Bool.and_eq_true] at hc
      exact .inr (.inl ⟨hf, hc.1, hc.2, by cases h; rfl⟩)
    · rename_i hc
      exact .inr (.inr ⟨hf, fun hl => by simpa [hl] using hc, h⟩)

/-- The text of a row is the remaining bytes where they begin with the row's bytes. -/
theorem textFrom_of_prefix {lead remaining : List Byte} (h : lead <+: remaining) :
    textFrom lead remaining = remaining := by
  obtain ⟨rest, rfl⟩ := h
  simp [textFrom]

theorem textFrom_length (lead remaining : List Byte) : (textFrom lead remaining).length = remaining.length := by
  simp [textFrom]
  omega

/-! The typed accesses (R183, R186, R195). -/

theorem typedRead_inside {s : State} {v : View} {off w : Nat} (hu : Usable v s) (h : off + w ≤ v.len)
    (shape : Nat → Response) :
    typedRead w shape v off s = .next { s with resp := shape (s.mem.read (v.base + off) w) } := by
  rw [typedRead, unlessLatched_clear hu.1, withView_held hu.2.1, withAccess_inside h hu.2.2, answer_eq]

theorem typedRead_next {s t : State} {v : View} {off w : Nat} {shape : Nat → Response}
    (h : typedRead w shape v off s = .next t) :
    (s.fault = true ∧ t = { s with resp := .refused s.fcause })
      ∨ (s.fault = false ∧ v ∈ s.views
          ∧ ((v.len < off + w ∧ t = faultedState .viewBounds (.viewBounds off w v.len) s)
              ∨ (off + w ≤ v.len ∧ t = { s with resp := shape (s.mem.read (v.base + off) w) }))) := by
  rcases unlessLatched_eq h with ⟨hf, h⟩ | ⟨hf, h⟩
  · exact .inl ⟨hf, by cases h; rfl⟩
  · obtain ⟨hv, h⟩ := withView_next h
    rcases withAccess_next h with h | ⟨hl, -, h⟩
    · exact .inr ⟨hf, hv, .inl h⟩
    · exact .inr ⟨hf, hv, .inr ⟨hl, by cases h; rfl⟩⟩

theorem typedWrite_inside {s : State} {v : View} {off w : Nat} (hu : Usable v s) (hm : v.mutBit = true)
    (h : off + w ≤ v.len) (x : Nat) :
    typedWrite w v off x s = .next { s with mem := s.mem.write (v.base + off) w x, resp := .done } := by
  rw [typedWrite, unlessLatched_clear hu.1, withView_held hu.2.1, if_pos hm, withAccess_inside h hu.2.2, answer_eq]

theorem typedWrite_next {s t : State} {v : View} {off w x : Nat} (h : typedWrite w v off x s = .next t) :
    (s.fault = true ∧ t = { s with resp := .refused s.fcause })
      ∨ (s.fault = false ∧ v ∈ s.views
          ∧ ((v.mutBit = false ∧ t = faultedState .viewReadOnly .viewReadOnly s)
              ∨ (v.mutBit = true ∧ v.len < off + w ∧ t = faultedState .viewBounds (.viewBounds off w v.len) s)
              ∨ (v.mutBit = true ∧ off + w ≤ v.len ∧ v.base + off + w ≤ s.mem.size
                  ∧ t = { s with mem := s.mem.write (v.base + off) w x, resp := .done }))) := by
  rcases unlessLatched_eq h with ⟨hf, h⟩ | ⟨hf, h⟩
  · exact .inl ⟨hf, by cases h; rfl⟩
  · obtain ⟨hv, h⟩ := withView_next h
    cases hm : v.mutBit
    · simp only [hm, Bool.false_eq_true, if_false, takeFault_eq, faultCause] at h
      exact .inr ⟨hf, hv, .inl ⟨rfl, by cases h; rfl⟩⟩
    · simp only [hm, if_true] at h
      rcases withAccess_next h with h | ⟨hl, hs, h⟩
      · exact .inr ⟨hf, hv, .inr (.inl ⟨rfl, h⟩)⟩
      · exact .inr ⟨hf, hv, .inr (.inr ⟨rfl, hl, hs, by cases h; rfl⟩)⟩

/-- The pattern of a signed value is its two's complement (R200 to R203). -/
theorem signedPattern_eq {n : Nat} (x : BitVec n) : signedPattern x = x.toNat := by
  have h1 := x.isLt
  unfold signedPattern
  rw [BitVec.toInt_eq_toNat_bmod]
  have h2 : (2 ^ n : Int) = ((2 ^ n : Nat) : Int) := by push_cast; rfl
  rw [h2, Int.bmod_emod, Int.emod_eq_of_lt (by omega) (by omega)]
  rfl

end Sys2Proof.Machine
end

