-- ==== Sys2Proof/Laws/Rows.lean ====
section
/-! SUPPORT. The meaning of an instruction by its class: every byte-class row is the pull on its bytes, every typed access
is the shared one with its operands. -/

namespace Sys2Proof.Machine

open Host

theorem exec_row (i : Instr) (s : State) (h : isCommand i = false) : exec i s = sweep (encode i) s := by
  cases i <;> first | rfl | cases h

/-- The shapes of a typed read of `w` bytes (R186). -/
theorem exec_of_readWidth {i : Instr} {v : View} {off w : Nat} (h : readWidth i = some (v, off, w)) :
    ∃ shape, (shape = unsignedShape ∨ shape = signedShape w) ∧ ∀ s, exec i s = typedRead w shape v off s := by
  cases i <;> cases h
  all_goals first | exact ⟨_, .inl rfl, fun _ => rfl⟩ | exact ⟨_, .inr rfl, fun _ => rfl⟩

theorem exec_of_writeOperands {i : Instr} {v : View} {off w x : Nat} (h : writeOperands i = some (v, off, w, x))
    (s : State) : exec i s = typedWrite w v off x s := by
  cases i <;> cases h
  all_goals first | rfl | exact congrArg (typedWrite _ _ _ · _) (signedPattern_eq _)

/-- A value to be written fits the width of the write. -/
theorem writeOperands_lt {i : Instr} {v : View} {off w x : Nat} (h : writeOperands i = some (v, off, w, x)) :
    x < 256 ^ w := by
  cases i <;> cases h
  all_goals exact BitVec.isLt _

/-- Only commands have view operands, and the typed accesses are commands. -/
theorem row_of_isCommand {i : Instr} (h : isCommand i = false) :
    viewOperands i = [] ∧ readWidth i = none ∧ writeOperands i = none := by
  cases i <;> first | exact ⟨rfl, rfl, rfl⟩ | cases h

theorem rowClass_command {i : Instr} : rowClass i = .command ↔ isCommand i = true := by
  cases i <;> constructor <;> intro h <;> first | rfl | cases h

end Sys2Proof.Machine
end

