-- ==== Sys2Proof/Laws/Effects.lean ====
section
/-! SUPPORT. Everything an instruction can do when it answers a next state, said once: the ways in which `exec` can change
the state. -/

namespace Sys2Proof.Machine

open Host

/-- How `t` follows from `s` by the instruction `i`. -/
inductive Effect (i : Instr) (s : State) : State → Prop
  /-- RESET (R280) -/
  | reset (hi : i = .reset) : Effect i s { resetRegisters s with resp := .done }
  /-- REFUSED (R264) -/
  | refused (hi : i ≠ .reset) (hf : s.fault = true) : Effect i s { s with resp := .refused s.fcause }
  /-- an answer that changes no register and no byte -/
  | answered (r : Response) (hf : s.fault = false) (hr : mayAnswer i r = true) (hn : ∀ f, r ≠ .faulted f) (hs : ∀ c, r ≠ .refused c)
      (hy : ∀ v va, r ≠ .yielded v va) : Effect i s { s with resp := r }
  /-- a fault (R262) -/
  | faulted (f : FaultInfo) (hf : s.fault = false) (hr : mayAnswer i (.faulted f) = true) :
      Effect i s (faultedState (faultCause f) f s)
  /-- ITER_START (R223) -/
  | bound (base len : Nat) (va0 : VaWord) (m : Bool) (hf : s.fault = false) (hi : i = .iterStart base len va0 m)
      (hb : base + len ≤ s.mem.size) (hv : va0.toNat < 2 ^ s.cfg.arch.vaw) :
      Effect i s { bindIterator base len va0 m s with resp := .done }
  /-- ITER_SKIP (R229) -/
  | skipped (k : Nat) (hf : s.fault = false) (hi : i = .iterSkip k) (hk : k ≤ s.endIdx - s.cur) (hv : VaFits k s) :
      Effect i s { consume k s with resp := .done }
  /-- a pull that meets the failure sentinel (R226) -/
  | exhausted (hf : s.fault = false) (hr : mayAnswer i .nothing = true) (hi : i = .iterNext ∨ isCommand i = false) :
      Effect i s (exhaustedState s)
  /-- a pull that yields the first instruction of a text as long as the remaining bytes (R227, R228) -/
  | yielded (text : List Byte) (hf : s.fault = false) (hi : i = .iterNext ∨ isCommand i = false)
      (he : s.cfg.exhLatch = true → s.exh = false)
      (hb : s.cur + (s.endIdx - s.cur) ≤ s.mem.size) (hl : text.length = s.endIdx - s.cur)
      (ht : i = .iterNext → text = remainingBytes s) (hp : 0 < (measure s.cfg text).total)
      (hv : VaFits (measure s.cfg text).total s) : Effect i s (yieldedState (measure s.cfg text).total s)
  /-- a typed write inside a mutable view (R195) -/
  | written (v : View) (off w x : Nat) (hf : s.fault = false) (hi : writeOperands i = some (v, off, w, x))
      (hv : v ∈ s.views) (hm : v.mutBit = true) (hl : off + w ≤ v.len) (hb : v.base + off + w ≤ s.mem.size) :
      Effect i s { s with mem := s.mem.write (v.base + off) w x, resp := .done }

theorem mayAnswer_pull {i : Instr} (hi : i = .iterNext ∨ isCommand i = false) (r : Response) :
    mayAnswer i r = mayAnswer.pullMayAnswer r := by
  rcases hi with rfl | hi
  · rfl
  · cases i <;> first | rfl | cases hi

theorem mayAnswer_read {i : Instr} {v : View} {off w : Nat} (h : readWidth i = some (v, off, w)) :
    (∀ n, mayAnswer i (.unsigned n) = true) ∧ (∀ n, mayAnswer i (.signed n) = true)
      ∧ ∀ a b c, mayAnswer i (.faulted (.viewBounds a b c)) = true := by
  cases i <;> cases h
  all_goals exact ⟨fun _ => rfl, fun _ => rfl, fun _ _ _ => rfl⟩

theorem mayAnswer_write {i : Instr} {v : View} {off w x : Nat} (h : writeOperands i = some (v, off, w, x)) :
    i ≠ .reset ∧ mayAnswer i .done = true ∧ mayAnswer i (.faulted .viewReadOnly) = true
      ∧ ∀ a b c, mayAnswer i (.faulted (.viewBounds a b c)) = true := by
  cases i <;> cases h
  all_goals exact ⟨by simp, rfl, rfl, fun _ _ _ => rfl⟩

theorem effect_refused {i : Instr} {s t : State} (hi : i ≠ .reset) (hf : s.fault = true)
    (h : t = { s with resp := .refused s.fcause }) : Effect i s t := h ▸ .refused hi hf

theorem effect_answered {i : Instr} {s t : State} (r : Response) (hf : s.fault = false) (h : answer r s = .next t)
    (hr : mayAnswer i r = true) (hn : ∀ f, r ≠ .faulted f) (hs : ∀ c, r ≠ .refused c) (hy : ∀ v va, r ≠ .yielded v va) : Effect i s t := by
  cases h; exact .answered r hf hr hn hs hy

/-- What follows the exhausted test of a pull. -/
theorem effect_pull {i : Instr} {s t : State} {text : List Byte} (hi : i = .iterNext ∨ isCommand i = false)
    (hf : s.fault = false) (he : s.cfg.exhLatch = true → s.exh = false)
    (hb : s.cur + (s.endIdx - s.cur) ≤ s.mem.size) (hl : text.length = s.endIdx - s.cur)
    (ht : i = .iterNext → text = remainingBytes s) (h : pullText text s = .next t) : Effect i s t := by
  rw [pullText_eq] at h
  split_ifs at h with h1 h2 <;> cases h
  · exact .exhausted hf (by rw [mayAnswer_pull hi]; rfl) hi
  · exact .yielded text hf hi he hb hl ht (by omega) h2
  · exact .faulted .vaOverflow hf (by rw [mayAnswer_pull hi]; rfl)

theorem effect_sweep {i : Instr} {s t : State} (hi : isCommand i = false) (h : exec i s = .next t) : Effect i s t := by
  have hn : i ≠ .reset ∧ i ≠ .iterNext := ⟨by rintro rfl; exact absurd hi (by decide), by rintro rfl; exact absurd hi (by decide)⟩
  rw [exec_row i s hi] at h
  rcases unlessExhausted_next h with ⟨hf, h⟩ | ⟨hf, -, -, rfl⟩ | ⟨hf, he, h⟩
  · exact effect_refused hn.1 hf h
  · exact .answered _ hf (by rw [mayAnswer_pull (.inr hi)]; rfl) (by simp) (by simp) (by simp)
  · obtain ⟨hb, h⟩ := withRemaining_next h
    exact effect_pull (.inr hi) hf he hb (by rw [textFrom_length]; simp [remainingBytes])
      (fun h => absurd h hn.2) h

theorem effect_write {i : Instr} {s t : State} {v : View} {off w x : Nat}
    (hw : writeOperands i = some (v, off, w, x)) (h : exec i s = .next t) : Effect i s t := by
  obtain ⟨h1, h2, h3, h4⟩ := mayAnswer_write hw
  rw [exec_of_writeOperands hw] at h
  rcases typedWrite_next h with ⟨hf, h⟩ | ⟨hf, hv, ⟨hm, rfl⟩ | ⟨hm, hl, rfl⟩ | ⟨hm, hl, hs, rfl⟩⟩
  · exact effect_refused h1 hf h
  · exact .faulted .viewReadOnly hf h3
  · exact .faulted (.viewBounds off w v.len) hf (h4 ..)
  · exact .written v off w x hf hw hv hm hl hs

theorem effect_read {i : Instr} {s t : State} {v : View} {off w : Nat} (hr : readWidth i = some (v, off, w))
    (h : exec i s = .next t) : Effect i s t := by
  obtain ⟨h1, h2, h3⟩ := mayAnswer_read hr
  obtain ⟨shape, hsh, he⟩ := exec_of_readWidth hr
  rw [he] at h
  rcases typedRead_next h with ⟨hf, h⟩ | ⟨hf, hv, ⟨hl, rfl⟩ | ⟨hl, rfl⟩⟩
  · exact effect_refused (by rintro rfl; cases hr) hf h
  · exact .faulted (.viewBounds off w v.len) hf (h3 ..)
  · rcases hsh with rfl | rfl
    · exact .answered _ hf (h1 _) (by simp [unsignedShape]) (by simp [unsignedShape]) (by simp [unsignedShape])
    · exact .answered _ hf (h2 _) (by simp [signedShape]) (by simp [signedShape]) (by simp [signedShape])

/-- A command that answers a next state and is neither a typed access nor RESET. -/
theorem effect_of_run {i : Instr} {s t : State} {run : Outcome State Fault Refusal} (hi : i ≠ .reset)
    (h : unlessLatched s run = .next t) (hr : s.fault = false → run = .next t → Effect i s t) : Effect i s t := by
  rcases unlessLatched_eq h with ⟨hf, h⟩ | ⟨hf, h⟩
  · exact effect_refused hi hf (by cases h; rfl)
  · exact hr hf h

/-- Every next state is one of the effects. -/
theorem exec_effect {i : Instr} {s t : State} (h : exec i s = .next t) : Effect i s t := by
  rcases Bool.eq_false_or_eq_true (isCommand i) with hc | hc
  swap
  · exact effect_sweep hc h
  cases hw : writeOperands i with
  | some p => exact effect_write hw h
  | none =>
    cases hr : readWidth i with
    | some p => exact effect_read hr h
    | none =>
      cases i
      case reset => cases h; exact .reset rfl
      case iterStart base len va0 m =>
        refine effect_of_run (by simp) h fun hf h => ?_
        obtain ⟨hb, h⟩ := withSlice_next h
        obtain ⟨hv, h⟩ := withAddress_next h
        cases h
        exact .bound base len va0 m hf rfl hb hv
      case iterSkip k =>
        refine effect_of_run (by simp) h fun hf h => ?_
        split_ifs at h with h1 h2 <;> cases h
        · exact .faulted (.skipRange _ _) hf rfl
        · exact .faulted .vaOverflow hf rfl
        · exact .skipped k hf rfl (by omega) (vaOverflows_eq_false.mp (by simpa using h2))
      case iterNext =>
        rcases unlessExhausted_next h with ⟨hf, h⟩ | ⟨hf, -, -, rfl⟩ | ⟨hf, he, h⟩
        · exact effect_refused (by simp) hf h
        · exact .answered _ hf rfl (by simp) (by simp) (by simp)
        · obtain ⟨hb, h⟩ := withRemaining_next h
          exact effect_pull (.inl rfl) hf he hb (by simp [remainingBytes]) (fun _ => rfl) h
      case decodeBreakdown base len =>
        refine effect_of_run (by simp) h fun hf h => ?_
        exact effect_answered _ hf (withSlice_next h).2 rfl (by simp) (by simp) (by simp)
      case decodeLen base len =>
        refine effect_of_run (by simp) h fun hf h => ?_
        exact effect_answered _ hf (withSlice_next h).2 rfl (by simp) (by simp) (by simp)
      case viewLen v =>
        refine effect_of_run (by simp) h fun hf h => ?_
        exact effect_answered _ hf (withView_next h).2 rfl (by simp) (by simp) (by simp)
      case viewBytes v =>
        refine effect_of_run (by simp) h fun hf h => ?_
        exact effect_answered _ hf (withViewBytes_next h).2.2 rfl (by simp) (by simp) (by simp)
      case viewHash v =>
        refine effect_of_run (by simp) h fun hf h => ?_
        exact effect_answered _ hf (withViewBytes_next h).2.2 rfl (by simp) (by simp) (by simp)
      case viewEq a b =>
        refine effect_of_run (by simp) h fun hf h => ?_
        exact effect_answered _ hf (withViewBytes_next (withViewBytes_next h).2.2).2.2 rfl (by simp) (by simp) (by simp)
      case viewCmp a b =>
        refine effect_of_run (by simp) h fun hf h => ?_
        exact effect_answered _ hf (withViewBytes_next (withViewBytes_next h).2.2).2.2 rfl (by simp) (by simp) (by simp)
      all_goals first | (cases hr; done) | (cases hw; done) | cases hc

end Sys2Proof.Machine
end

