-- ==== Sys2Proof/Laws/Engine.lean ====
section
/-! SUPPORT. The decode engine: the prefix loop as a fold over a run of prefix bytes, what an addressing byte asks for, and
which bytes a decode depends on. -/

namespace Sys2Proof.Machine

/-! The prefix loop (R142, R145, R148). -/

/-- What consuming one prefix byte does to the values of the loop. -/
def consumePrefix (cfg : Config) (l : Widths) (b : Byte) : Widths :=
  if tableHas cfg.tables.isLegacyPrefix b then consumeLegacy cfg b l else consumeRex b l

@[simp] theorem consumeLegacy_count (cfg : Config) (b : Byte) (l : Widths) :
    (consumeLegacy cfg b l).count = l.count + 1 := by
  unfold consumeLegacy
  split_ifs <;> (try cases cfg.arch) <;> rfl

@[simp] theorem consumeRex_count (b : Byte) (l : Widths) : (consumeRex b l).count = l.count + 1 := rfl

@[simp] theorem consumePrefix_count (cfg : Config) (l : Widths) (b : Byte) :
    (consumePrefix cfg l b).count = l.count + 1 := by
  unfold consumePrefix
  split_ifs <;> simp

@[simp] theorem startWidths_count (arch : Arch) : (startWidths arch).count = 0 := rfl

theorem foldl_consumePrefix_count (cfg : Config) (pre : List Byte) (l : Widths) :
    (pre.foldl (consumePrefix cfg) l).count = l.count + pre.length := by
  induction pre generalizing l with
  | nil => rfl
  | cons b pre ih => simp [ih]; omega

/-- One prefix byte. -/
theorem prefixLoop_cons_prefix (cfg : Config) (l : Widths) (b : Byte) (s : List Byte) (h : isPrefixByte cfg b = true) :
    prefixLoop cfg l (b :: s) = prefixLoop cfg (consumePrefix cfg l b) s := by
  simp only [isPrefixByte, Bool.or_eq_true] at h
  simp only [prefixLoop, consumePrefix]
  rcases Bool.eq_false_or_eq_true (tableHas cfg.tables.isLegacyPrefix b) with hl | hl
  · simp [hl]
  · rcases h with h | h
    · simp [h] at hl
    · simp [hl, h]

/-- The byte that ends the loop. -/
theorem prefixLoop_cons_opcode (cfg : Config) (l : Widths) (b : Byte) (s : List Byte)
    (h : isPrefixByte cfg b = false) : prefixLoop cfg l (b :: s) = some (l, b, s) := by
  simp only [isPrefixByte, Bool.or_eq_false_iff] at h
  simp [prefixLoop, h.1, h.2]

/-- A run of prefix bytes and the byte that ends it. -/
theorem prefixLoop_run (cfg : Config) (l : Widths) (pre : List Byte) (op : Byte) (rest : List Byte)
    (hp : ∀ b ∈ pre, isPrefixByte cfg b = true) (ho : isPrefixByte cfg op = false) :
    prefixLoop cfg l (pre ++ op :: rest) = some (pre.foldl (consumePrefix cfg) l, op, rest) := by
  induction pre generalizing l with
  | nil => exact prefixLoop_cons_opcode cfg l op rest ho
  | cons b pre ih =>
    rw [List.cons_append, prefixLoop_cons_prefix _ _ _ _ (hp b (by simp)), ih _ fun c hc => hp c (by simp [hc])]
    rfl

/-- A slice of nothing but prefix bytes has no opcode. -/
theorem prefixLoop_all_prefix (cfg : Config) (l : Widths) (pre : List Byte)
    (hp : ∀ b ∈ pre, isPrefixByte cfg b = true) : prefixLoop cfg l pre = none := by
  induction pre generalizing l with
  | nil => rfl
  | cons b pre ih =>
    rw [prefixLoop_cons_prefix _ _ _ _ (hp b (by simp)), ih _ fun c hc => hp c (by simp [hc])]

/-- Every slice is a run of prefix bytes, then nothing or a byte that is no prefix. -/
theorem split_run (cfg : Config) (s : List Byte) :
    (∀ b ∈ s, isPrefixByte cfg b = true)
      ∨ ∃ pre op rest, s = pre ++ op :: rest ∧ (∀ b ∈ pre, isPrefixByte cfg b = true) ∧ isPrefixByte cfg op = false := by
  induction s with
  | nil => exact .inl (by simp)
  | cons b s ih =>
    rcases Bool.eq_false_or_eq_true (isPrefixByte cfg b) with hb | hb
    · rcases ih with h | ⟨pre, op, rest, rfl, hp, ho⟩
      · exact .inl (by simpa [hb] using h)
      · exact .inr ⟨b :: pre, op, rest, rfl, by simpa [hb] using hp, ho⟩
    · exact .inr ⟨[], b, s, rfl, by simp, hb⟩

/-- Everything the prefix loop can do. -/
theorem prefixLoop_some {cfg : Config} {l l' : Widths} {s : List Byte} {op : Byte} {rest : List Byte}
    (h : prefixLoop cfg l s = some (l', op, rest)) :
    ∃ pre, s = pre ++ op :: rest ∧ (∀ b ∈ pre, isPrefixByte cfg b = true) ∧ isPrefixByte cfg op = false
      ∧ l' = pre.foldl (consumePrefix cfg) l ∧ l'.count = l.count + pre.length := by
  rcases split_run cfg s with hs | ⟨pre, op', rest', rfl, hp, ho⟩
  · rw [prefixLoop_all_prefix _ _ _ hs] at h
    cases h
  · rw [prefixLoop_run _ _ _ _ _ hp ho] at h
    cases h
    exact ⟨pre, rfl, hp, ho, rfl, foldl_consumePrefix_count ..⟩

/-- Under R106 (c) and (d) the overrides are legacy prefixes, and a legacy prefix is no REX byte. -/
theorem prefixes_disjoint {t : Tables} (ht : tablesStructural t = true) :
    tableHas t.isLegacyPrefix t.opsize = true ∧ tableHas t.isLegacyPrefix t.adsize = true ∧ t.opsize ≠ t.adsize
      ∧ ∀ b, tableHas t.isLegacyPrefix b = true → tableHas t.isRex b = false := by
  simp only [tablesStructural, Bool.and_eq_true, beq_iff_eq, bne_iff_ne] at ht
  refine ⟨ht.1.1.1.2, ht.1.1.2, ht.1.1.1.1.2, fun b hb => ?_⟩
  have h := congrArg (fun x => BitVec.getLsbD x b.toNat) ht.1.2
  simp only [tableHas] at hb ⊢
  simpa [BitVec.getLsbD_and, hb] using h

/-- R141 to R147: the values of the loop after a run of prefixes. The last prefix decides REX.W; whether an override is in
the run, not where or how often, decides the widths. -/
theorem widths_after_prefixes {cfg : Config} (ht : tablesStructural cfg.tables = true) (pre : List Byte)
    (hp : ∀ b ∈ pre, isPrefixByte cfg b = true) :
    pre.foldl (consumePrefix cfg) (startWidths cfg.arch)
      = { count := pre.length
          ddef := if cfg.tables.opsize ∈ pre then 2 else 4
          adisp := displacementWidth cfg.arch (decide (cfg.tables.adsize ∈ pre))
          amoffs := absoluteWidth cfg.arch (decide (cfg.tables.adsize ∈ pre))
          rexw := lastRexW cfg pre } := by
  induction pre using List.reverseRecOn with
  | nil => cases h : cfg.arch <;> simp [startWidths, displacementWidth, absoluteWidth, lastRexW]
  | append_singleton pre b ih =>
    rw [List.foldl_append, List.foldl_cons, List.foldl_nil, ih fun c hc => hp c (by simp [hc])]
    obtain ⟨ho, ha, hne, hdis⟩ := prefixes_disjoint ht
    unfold consumePrefix consumeLegacy consumeRex
    rcases Bool.eq_false_or_eq_true (tableHas cfg.tables.isLegacyPrefix b) with hl | hl
    · have hr := hdis b hl
      by_cases h1 : cfg.tables.opsize = b
      · have h2 : cfg.tables.adsize ≠ b := fun h => hne (h1.trans h.symm)
        simp [hl, hr, h1, h2, h2.symm, lastRexW]
      · by_cases h2 : cfg.tables.adsize = b
        · cases h : cfg.arch <;> simp [hl, hr, h1, Ne.symm h1, h2, displacementWidth, absoluteWidth, lastRexW]
        · simp [hl, hr, h1, Ne.symm h1, h2, Ne.symm h2, lastRexW]
    · have h1 : cfg.tables.opsize ≠ b := by rintro rfl; simp [ho] at hl
      have h2 : cfg.tables.adsize ≠ b := by rintro rfl; simp [ha] at hl
      have hr : tableHas cfg.tables.isRex b = true := by
        have := hp b (by simp)
        simp [isPrefixByte, hl] at this
        exact this.2
      simp [hl, hr, h1, h2, lastRexW, List.mem_append]

/-! The parts of an instruction after its prefixes. -/

/-- The steps of a decode after the prefix loop: prefix, opcode and argument bytes; no check of the total. -/
def afterPrefixes (cfg : Config) (l : Widths) (op : Byte) (rest : List Byte) : Option (Nat × Nat × Nat × Nat) :=
  match dispatchOpcode cfg l op rest with
  | none => none
  | some info =>
    match addressing l info.modrm info.rest with
    | none => none
    | some (consumed, disp) => some (l.count, info.count, consumed, disp + info.imm)

theorem decodeSteps_eq (cfg : Config) (s : List Byte) :
    decodeSteps cfg s
      = match prefixLoop cfg (startWidths cfg.arch) s with
        | none => none
        | some (l, op, rest) =>
          match afterPrefixes cfg l op rest with
          | none => none
          | some (p, o, c, a) => totalUp s.length p o (c + a) := by
  unfold decodeSteps afterPrefixes
  cases prefixLoop cfg (startWidths cfg.arch) s with
  | none => rfl
  | some x =>
    obtain ⟨l, op, rest⟩ := x
    simp only
    cases dispatchOpcode cfg l op rest with
    | none => rfl
    | some info =>
      simp only
      cases addressing l info.modrm info.rest with
      | none => rfl
      | some y => simp only [Nat.add_assoc]

theorem bytesRead_eq (cfg : Config) (s : List Byte) :
    bytesRead cfg s
      = match prefixLoop cfg (startWidths cfg.arch) s with
        | none => 0
        | some (l, op, rest) =>
          match afterPrefixes cfg l op rest with
          | none => 0
          | some (p, o, c, _) => p + o + c := by
  unfold bytesRead afterPrefixes
  cases prefixLoop cfg (startWidths cfg.arch) s with
  | none => rfl
  | some x =>
    obtain ⟨l, op, rest⟩ := x
    simp only
    cases dispatchOpcode cfg l op rest with
    | none => rfl
    | some info =>
      simp only
      cases addressing l info.modrm info.rest with
      | none => rfl
      | some y => rfl

/-- R171, R173: a decode fails, or its parts add up to a total no longer than the slice. -/
theorem measure_cases (cfg : Config) (s : List Byte) :
    measure cfg s = failedBreakdown
      ∨ ∃ l op rest p o c a, prefixLoop cfg (startWidths cfg.arch) s = some (l, op, rest)
          ∧ afterPrefixes cfg l op rest = some (p, o, c, a) ∧ p + o + (c + a) ≤ s.length
          ∧ measure cfg s = { total := p + o + (c + a), opcodeBytes := o, argumentBytes := c + a, prefixBytes := p } := by
  unfold measure
  rw [decodeSteps_eq]
  cases h : prefixLoop cfg (startWidths cfg.arch) s with
  | none => exact .inl rfl
  | some x =>
    obtain ⟨l, op, rest⟩ := x
    simp only
    cases h2 : afterPrefixes cfg l op rest with
    | none => exact .inl rfl
    | some y =>
      obtain ⟨p, o, c, a⟩ := y
      simp only [totalUp]
      split_ifs with h3
      · exact .inr ⟨l, op, rest, p, o, c, a, rfl, h2, h3, rfl⟩
      · exact .inl rfl

/-- The measure of a slice whose parts are known. -/
theorem measure_of_parts {cfg : Config} {s : List Byte} {l : Widths} {op : Byte} {rest : List Byte} {p o c a : Nat}
    (h : prefixLoop cfg (startWidths cfg.arch) s = some (l, op, rest))
    (h2 : afterPrefixes cfg l op rest = some (p, o, c, a)) :
    measure cfg s
      = if p + o + (c + a) ≤ s.length then
          { total := p + o + (c + a), opcodeBytes := o, argumentBytes := c + a, prefixBytes := p }
        else failedBreakdown := by
  unfold measure
  rw [decodeSteps_eq, h]
  simp only [h2, totalUp]
  split_ifs <;> rfl

/-- The bytes consumed of an addressing form and of its displacement do not depend on what follows them. -/
theorem addressing_local {l : Widths} {modrm : Bool} {rest rest' : List Byte} {c d : Nat}
    (h : addressing l modrm rest = some (c, d)) (ht : rest'.take c = rest.take c) :
    addressing l modrm rest' = some (c, d) ∧ c ≤ rest.length := by
  unfold addressing at h ⊢
  cases modrm with
  | false => simp at h ⊢; omega
  | true =>
    simp only [if_true] at h ⊢
    cases rest with
    | nil => cases h
    | cons m rest =>
      simp only at h
      split at h
      · rename_i hm
        cases rest with
        | nil => cases h
        | cons x rest =>
          cases h
          match rest', ht with
          | m' :: x' :: rest', ht =>
            simp at ht
            obtain ⟨rfl, rfl⟩ := ht
            simp [hm]
      · rename_i hm
        cases h
        match rest', ht with
        | m' :: rest', ht =>
          simp at ht
          subst ht
          simp [hm]

/-- Under R106 (e) the group pair has an addressing byte. -/
theorem pair_has_modrm {t : Tables} (ht : tablesStructural t = true) (op : Byte)
    (h : (tableHas t.op1G3Imm8 op || tableHas t.op1G3ImmDef op) = true) : tableHas t.op1Modrm op = true := by
  simp only [tablesStructural, Bool.and_eq_true, beq_iff_eq] at ht
  have h2 := congrArg (fun x => BitVec.getLsbD x op.toNat) ht.2
  simp only [BitVec.getLsbD_and, BitVec.getLsbD_or, BitVec.getLsbD_not] at h2
  simp only [tableHas] at h ⊢
  have hlt : decide (op.toNat < 256) = true := by simpa using op.isLt
  rw [h, hlt] at h2
  simpa using h2

/-- What follows the opcode, the addressing byte and its extension byte plays no part (R58, R177). -/
theorem afterPrefixes_local {cfg : Config} {l : Widths} {op : Byte} {rest rest' : List Byte} {p o c a : Nat}
    (ht : tablesStructural cfg.tables = true) (h : afterPrefixes cfg l op rest = some (p, o, c, a))
    (hr : rest'.take (o - 1 + c) = rest.take (o - 1 + c)) :
    afterPrefixes cfg l op rest' = some (p, o, c, a) ∧ 1 ≤ o ∧ o ≤ 3 ∧ o + c ≤ rest.length + 1 ∧ p = l.count := by
  unfold afterPrefixes at h ⊢
  cases hd : dispatchOpcode cfg l op rest with
  | none => simp [hd] at h
  | some info =>
    simp only [hd] at h
    cases ha : addressing l info.modrm info.rest with
    | none => simp [ha] at h
    | some y =>
      obtain ⟨c', d⟩ := y
      simp only [ha, Option.some.injEq, Prod.mk.injEq] at h
      obtain ⟨rfl, rfl, rfl, rfl⟩ := h
      suffices hs : dispatchOpcode cfg l op rest' = some { info with rest := rest'.drop (info.count - 1) }
          ∧ info.rest = rest.drop (info.count - 1) ∧ 1 ≤ info.count ∧ info.count ≤ 3
          ∧ info.count - 1 ≤ rest.length by
        obtain ⟨h1, h2, h3, h4, h5⟩ := hs
        have hr2 : (rest'.drop (info.count - 1)).take c' = (rest.drop (info.count - 1)).take c' := by
          rw [List.take_drop, List.take_drop, hr]
        rw [h2] at ha
        obtain ⟨h6, h7⟩ := addressing_local ha hr2
        simp only [h1, h6]
        simp only [List.length_drop] at h7
        exact ⟨trivial, h3, h4, by omega, trivial⟩
      unfold dispatchOpcode at hd ⊢
      split at hd
      · rename_i hop
        simp only [if_pos hop]
        cases rest with
        | nil => cases hd
        | cons op2 rest2 =>
          simp only at hd
          have three : ∀ invalid imm op3 rest3, classifyThree invalid imm op3 rest3 = some info →
              info.count = 3 ∧ info.rest = rest3 ∧ ∀ r, classifyThree invalid imm op3 r = some { info with rest := r } := by
            intro invalid imm op3 rest3 h
            unfold classifyThree at h ⊢
            split at h
            · cases h
            · rename_i hv
              cases h
              exact ⟨rfl, rfl, fun r => by rw [if_neg hv]⟩
          split at hd
          · rename_i h38
            cases rest2 with
            | nil => cases hd
            | cons op3 rest3 =>
              obtain ⟨hc, hrr, hall⟩ := three _ _ _ _ hd
              rw [hc] at hr ⊢
              rcases rest' with _ | ⟨a, _ | ⟨b, rest'⟩⟩ <;> simp [Nat.add_comm _ c'] at hr
              obtain ⟨rfl, rfl, hr⟩ := hr
              simp [h38, hall, hrr, hc]
          · rename_i hn38
            split at hd
            · rename_i h3A
              cases rest2 with
              | nil => cases hd
              | cons op3 rest3 =>
                obtain ⟨hc, hrr, hall⟩ := three _ _ _ _ hd
                rw [hc] at hr ⊢
                rcases rest' with _ | ⟨a, _ | ⟨b, rest'⟩⟩ <;> simp [Nat.add_comm _ c'] at hr
                obtain ⟨rfl, rfl, hr⟩ := hr
                simp [h3A, hall, hrr, hc]
            · rename_i hn3A
              unfold classifyTwo at hd
              simp only at hd
              split at hd
              · cases hd
              · rename_i hv
                cases hd
                simp only at hr ⊢
                match rest', hr with
                | a :: rest', hr =>
                  simp [Nat.add_comm] at hr
                  obtain ⟨rfl, hr⟩ := hr
                  simp [hn38, hn3A, classifyTwo, hv]
                | [], hr => simp [Nat.add_comm] at hr
      · rename_i hop
        simp only [if_neg hop]
        unfold classifyOne at hd
        simp only at hd
        cases hpair : pairImmediate cfg l op rest with
        | none => simp [hpair] at hd
        | some k =>
          simp only [hpair] at hd
          cases hd
          simp only at hr ha ⊢
          suffices hp' : pairImmediate cfg l op rest' = some k by
            simp [classifyOne, hp']
          unfold pairImmediate at hpair ⊢
          split at hpair
          · rename_i hg
            rw [if_pos hg]
            have hm := pair_has_modrm ht op hg
            cases rest with
            | nil => cases hpair
            | cons m rest =>
              rw [hm] at ha
              have hc : 1 ≤ c' := by
                unfold addressing at ha
                simp only [if_true] at ha
                split at ha
                · split at ha
                  · cases ha
                  · cases ha; omega
                · cases ha; omega
              obtain ⟨c'', rfl⟩ := Nat.exists_eq_add_of_le' hc
              match rest', hr with
              | m' :: rest', hr =>
                simp at hr
                obtain ⟨rfl, -⟩ := hr
                exact hpair
              | [], hr => simp at hr
          · rename_i hg
            rw [if_neg hg]
            exact hpair

/-- What a successful decode depends on: the bytes it reads, and whether the slice holds the total (R58, R170, R177). -/
theorem measure_local {cfg : Config} {b b' : List Byte} (ht : tablesStructural cfg.tables = true)
    (hp : 0 < (measure cfg b).total) (h : b'.take (bytesRead cfg b) = b.take (bytesRead cfg b)) :
    bytesRead cfg b ≤ (measure cfg b).total
      ∧ measure cfg b' = if (measure cfg b).total ≤ b'.length then measure cfg b else failedBreakdown := by
  rcases measure_cases cfg b with hb | ⟨l, op, rest, p, o, c, a, h1, h2, h3, h4⟩
  · simp [hb, failedBreakdown] at hp
  have hr : bytesRead cfg b = p + o + c := by rw [bytesRead_eq, h1]; simp only [h2]
  rw [hr] at h ⊢
  obtain ⟨pre, rfl, hpre, hop, hl, hc⟩ := prefixLoop_some h1
  obtain ⟨-, ho1, -, hlen, hpl⟩ := afterPrefixes_local (rest' := rest) ht h2 rfl
  simp only [startWidths_count, Nat.zero_add] at hc
  have hb' : ∃ rest', b' = pre ++ op :: rest' ∧ rest'.take (o - 1 + c) = rest.take (o - 1 + c) := by
    obtain ⟨k, hk⟩ : ∃ k, p + o + c = pre.length + (1 + k) := ⟨o - 1 + c, by omega⟩
    have hko : o - 1 + c = k := by omega
    rw [hk] at h
    have hpre2 : b'.take pre.length = pre := by
      have := congrArg (List.take pre.length) h
      simpa [List.take_take] using this
    have hdrop : (b'.drop pre.length).take (1 + k) = (op :: rest).take (1 + k) := by
      rw [List.take_drop, h, ← List.take_drop, List.drop_left]
    rw [Nat.add_comm 1 k] at hdrop
    rcases hd : b'.drop pre.length with _ | ⟨x, rest'⟩
    · rw [hd] at hdrop; simp at hdrop
    · rw [hd] at hdrop
      simp at hdrop
      refine ⟨rest', ?_, by rw [hko]; exact hdrop.2⟩
      have hcat := List.take_append_drop pre.length b'
      rw [hpre2, hd, hdrop.1] at hcat
      exact hcat.symm
  obtain ⟨rest', rfl, hrest⟩ := hb'
  have h5 := (afterPrefixes_local ht h2 hrest).1
  have h6 : prefixLoop cfg (startWidths cfg.arch) (pre ++ op :: rest') = some (l, op, rest') := by
    rw [prefixLoop_run _ _ _ _ _ hpre hop, hl]
  rw [measure_of_parts h6 h5, h4]
  exact ⟨by simp only; omega, rfl⟩

/-! The measure of a run of prefixes and what follows it. -/

theorem measure_all_prefix (cfg : Config) (s : List Byte) (hs : ∀ b ∈ s, isPrefixByte cfg b = true) :
    measure cfg s = failedBreakdown := by
  unfold measure
  rw [decodeSteps_eq, prefixLoop_all_prefix _ _ _ hs]
  rfl

theorem measure_run (cfg : Config) (pre : List Byte) (op : Byte) (rest : List Byte)
    (hp : ∀ b ∈ pre, isPrefixByte cfg b = true) (ho : isPrefixByte cfg op = false) :
    measure cfg (pre ++ op :: rest)
      = match afterPrefixes cfg (pre.foldl (consumePrefix cfg) (startWidths cfg.arch)) op rest with
        | none => failedBreakdown
        | some (p, o, c, a) =>
          if p + o + (c + a) ≤ pre.length + 1 + rest.length then
            { total := p + o + (c + a), opcodeBytes := o, argumentBytes := c + a, prefixBytes := p }
          else failedBreakdown := by
  unfold measure
  rw [decodeSteps_eq, prefixLoop_run _ _ _ _ _ hp ho]
  simp only
  cases afterPrefixes cfg (pre.foldl (consumePrefix cfg) (startWidths cfg.arch)) op rest with
  | none => rfl
  | some x =>
    simp only [totalUp, List.length_append, List.length_cons]
    rw [show pre.length + (rest.length + 1) = pre.length + 1 + rest.length by omega]
    split_ifs <;> rfl

/-- The number of bytes consumed so far plays no part in what a prefix byte does. -/
theorem consumePrefix_withCount (cfg : Config) (l : Widths) (n : Nat) (b : Byte) :
    consumePrefix cfg { l with count := n } b = { consumePrefix cfg l b with count := n + 1 } := by
  unfold consumePrefix consumeLegacy consumeRex
  split_ifs <;> (try cases cfg.arch) <;> rfl

theorem foldl_consumePrefix_withCount (cfg : Config) (pre : List Byte) (l : Widths) (n : Nat) :
    pre.foldl (consumePrefix cfg) { l with count := n }
      = { pre.foldl (consumePrefix cfg) l with count := n + pre.length } := by
  induction pre generalizing l n with
  | nil => rfl
  | cons b pre ih =>
    rw [List.foldl_cons, consumePrefix_withCount, ih, List.foldl_cons]
    simp
    omega

/-- Nor in what follows the prefixes. -/
theorem afterPrefixes_withCount (cfg : Config) (l : Widths) (n : Nat) (op : Byte) (rest : List Byte) :
    afterPrefixes cfg { l with count := n } op rest = (afterPrefixes cfg l op rest).map fun x => (n, x.2) := by
  have hd : dispatchOpcode cfg { l with count := n } op rest = dispatchOpcode cfg l op rest := rfl
  have ha : ∀ m r, addressing { l with count := n } m r = addressing l m r := fun _ _ => rfl
  unfold afterPrefixes
  rw [hd]
  cases dispatchOpcode cfg l op rest with
  | none => rfl
  | some info =>
    simp only [ha]
    cases addressing l info.modrm info.rest <;> rfl

/-- A one-byte opcode that is not of the group pair: its addressing form, and the sum of its immediate classes (R163). -/
theorem afterPrefixes_one (cfg : Config) (l : Widths) (op : Byte) (rest : List Byte) (hop : op ≠ 0x0F#8)
    (h8 : tableHas cfg.tables.op1G3Imm8 op = false) (hd : tableHas cfg.tables.op1G3ImmDef op = false) :
    afterPrefixes cfg l op rest
      = (addressing l (tableHas cfg.tables.op1Modrm op) rest).map fun x =>
          (l.count, 1, x.1, x.2 + (widthIf (tableHas cfg.tables.op1Imm8 op) 1
            + widthIf (tableHas cfg.tables.op1ImmDef op) (defaultWidth cfg l)
            + widthIf (tableHas cfg.tables.op1ImmFull op) (fullWidth cfg l)
            + widthIf (tableHas cfg.tables.op1Imm16 op) 2 + widthIf (tableHas cfg.tables.op1Moffs op) l.amoffs + 0)) := by
  unfold afterPrefixes dispatchOpcode classifyOne pairImmediate
  simp only [if_neg hop, h8, hd, Bool.or_self, Bool.false_eq_true, if_false]
  cases addressing l (tableHas cfg.tables.op1Modrm op) rest <;> rfl

/-- Under R106 (a) the escape is no prefix. -/
theorem escape_not_prefix {cfg : Config} (ht : tablesStructural cfg.tables = true) :
    isPrefixByte cfg 0x0F#8 = false := by
  simp only [tablesStructural, Bool.and_eq_true, Bool.not_eq_true'] at ht
  simp [isPrefixByte, ht]

/-- What an addressing byte and its extension byte ask for, in the words of R89. -/
theorem addressing_eq (l : Widths) (m x : Byte) (rest : List Byte) :
    ∃ c d, addressing l true (m :: x :: rest) = some (c, d) ∧ c + d = 1 + addressingTail l.adisp m x := by
  have hm : modeField m < 4 := by have := m.isLt; unfold modeField; omega
  unfold addressing addressingTail displacement widthIf
  simp only [if_true]
  generalize modeField m = k at *
  generalize lowField m = r at *
  generalize lowField x = q at *
  have : k = 0 ∨ k = 1 ∨ k = 2 ∨ k = 3 := by omega
  rcases this with rfl | rfl | rfl | rfl <;> by_cases h4 : r = 4 <;> by_cases h5 : r = 5 <;> by_cases hq : q = 5 <;>
    simp_all <;> omega

end Sys2Proof.Machine
end

