-- ==== Sys2Proof/Laws/PerInstr.lean ====
section
/-! SUPPORT. A statement about every instruction as syntax: its encoding begins with bytes that belong to its row of the
opcode table, whose match and mask are written out in Machine/Rows.lean (30_encoding.md R128). One lemma for each
constructor. -/

namespace Sys2Proof.Laws.TableRow

open Sys2Proof.Machine

/-- The encoding of the instruction begins with bytes of its row. -/
def Statement (i : Instr) : Prop := belongsTo (rowMatch i) (encode i) = true

theorem reset : Statement (.reset) := rfl
theorem decodeBreakdown (base : Nat) (len : Nat) : Statement (.decodeBreakdown base len) := rfl
theorem decodeLen (base : Nat) (len : Nat) : Statement (.decodeLen base len) := rfl
theorem iterStart (base : Nat) (len : Nat) (va0 : VaWord) (mutBit : Bool) : Statement (.iterStart base len va0 mutBit) := rfl
theorem iterNext : Statement (.iterNext) := rfl
theorem iterSkip (k : Nat) : Statement (.iterSkip k) := rfl
theorem viewLen (v : View) : Statement (.viewLen v) := rfl
theorem viewBytes (v : View) : Statement (.viewBytes v) := rfl
theorem viewReadU8 (v : View) (off : Nat) : Statement (.viewReadU8 v off) := rfl
theorem viewReadU16 (v : View) (off : Nat) : Statement (.viewReadU16 v off) := rfl
theorem viewReadU32 (v : View) (off : Nat) : Statement (.viewReadU32 v off) := rfl
theorem viewReadU64 (v : View) (off : Nat) : Statement (.viewReadU64 v off) := rfl
theorem viewReadI8 (v : View) (off : Nat) : Statement (.viewReadI8 v off) := rfl
theorem viewReadI16 (v : View) (off : Nat) : Statement (.viewReadI16 v off) := rfl
theorem viewReadI32 (v : View) (off : Nat) : Statement (.viewReadI32 v off) := rfl
theorem viewReadI64 (v : View) (off : Nat) : Statement (.viewReadI64 v off) := rfl
theorem viewWriteU8 (v : View) (off : Nat) (x : BitVec 8) : Statement (.viewWriteU8 v off x) := rfl
theorem viewWriteU16 (v : View) (off : Nat) (x : BitVec 16) : Statement (.viewWriteU16 v off x) := rfl
theorem viewWriteU32 (v : View) (off : Nat) (x : BitVec 32) : Statement (.viewWriteU32 v off x) := rfl
theorem viewWriteU64 (v : View) (off : Nat) (x : BitVec 64) : Statement (.viewWriteU64 v off x) := rfl
theorem viewWriteI8 (v : View) (off : Nat) (x : BitVec 8) : Statement (.viewWriteI8 v off x) := rfl
theorem viewWriteI16 (v : View) (off : Nat) (x : BitVec 16) : Statement (.viewWriteI16 v off x) := rfl
theorem viewWriteI32 (v : View) (off : Nat) (x : BitVec 32) : Statement (.viewWriteI32 v off x) := rfl
theorem viewWriteI64 (v : View) (off : Nat) (x : BitVec 64) : Statement (.viewWriteI64 v off x) := rfl
theorem viewEq (a : View) (b : View) : Statement (.viewEq a b) := rfl
theorem viewCmp (a : View) (b : View) : Statement (.viewCmp a b) := rfl
theorem viewHash (v : View) : Statement (.viewHash v) := rfl
theorem b1_00_03 (sel : BitVec 2) : Statement (.b1_00_03 sel) := by revert sel; unfold Statement; decide
theorem b1_04 : Statement .b1_04 := rfl
theorem b1_05 : Statement .b1_05 := rfl
theorem b1_06_07 (sel : BitVec 1) : Statement (.b1_06_07 sel) := by revert sel; unfold Statement; decide
theorem b1_08_0B (sel : BitVec 2) : Statement (.b1_08_0B sel) := by revert sel; unfold Statement; decide
theorem b1_0C : Statement .b1_0C := rfl
theorem b1_0D : Statement .b1_0D := rfl
theorem b1_0E : Statement .b1_0E := rfl
theorem b1_0F : Statement .b1_0F := rfl
theorem b1_10_13 (sel : BitVec 2) : Statement (.b1_10_13 sel) := by revert sel; unfold Statement; decide
theorem b1_14 : Statement .b1_14 := rfl
theorem b1_15 : Statement .b1_15 := rfl
theorem b1_16_17 (sel : BitVec 1) : Statement (.b1_16_17 sel) := by revert sel; unfold Statement; decide
theorem b1_18_1B (sel : BitVec 2) : Statement (.b1_18_1B sel) := by revert sel; unfold Statement; decide
theorem b1_1C : Statement .b1_1C := rfl
theorem b1_1D : Statement .b1_1D := rfl
theorem b1_1E_1F (sel : BitVec 1) : Statement (.b1_1E_1F sel) := by revert sel; unfold Statement; decide
theorem b1_20_23 (sel : BitVec 2) : Statement (.b1_20_23 sel) := by revert sel; unfold Statement; decide
theorem b1_24 : Statement .b1_24 := rfl
theorem b1_25 : Statement .b1_25 := rfl
theorem b1_26 : Statement .b1_26 := rfl
theorem b1_27 : Statement .b1_27 := rfl
theorem b1_28_2B (sel : BitVec 2) : Statement (.b1_28_2B sel) := by revert sel; unfold Statement; decide
theorem b1_2C : Statement .b1_2C := rfl
theorem b1_2D : Statement .b1_2D := rfl
theorem b1_2E : Statement .b1_2E := rfl
theorem b1_2F : Statement .b1_2F := rfl
theorem b1_30_33 (sel : BitVec 2) : Statement (.b1_30_33 sel) := by revert sel; unfold Statement; decide
theorem b1_34 : Statement .b1_34 := rfl
theorem b1_35 : Statement .b1_35 := rfl
theorem b1_36 : Statement .b1_36 := rfl
theorem b1_37 : Statement .b1_37 := rfl
theorem b1_38_3B (sel : BitVec 2) : Statement (.b1_38_3B sel) := by revert sel; unfold Statement; decide
theorem b1_3C : Statement .b1_3C := rfl
theorem b1_3D : Statement .b1_3D := rfl
theorem b1_3E : Statement .b1_3E := rfl
theorem b1_3F : Statement .b1_3F := rfl
theorem b1_40_5F (sel : BitVec 5) : Statement (.b1_40_5F sel) := by revert sel; unfold Statement; decide
theorem b1_60_61 (sel : BitVec 1) : Statement (.b1_60_61 sel) := by revert sel; unfold Statement; decide
theorem b1_62_63 (sel : BitVec 1) : Statement (.b1_62_63 sel) := by revert sel; unfold Statement; decide
theorem b1_64_67 (sel : BitVec 2) : Statement (.b1_64_67 sel) := by revert sel; unfold Statement; decide
theorem b1_68 : Statement .b1_68 := rfl
theorem b1_69 : Statement .b1_69 := rfl
theorem b1_6A : Statement .b1_6A := rfl
theorem b1_6B : Statement .b1_6B := rfl
theorem b1_6C_6F (sel : BitVec 2) : Statement (.b1_6C_6F sel) := by revert sel; unfold Statement; decide
theorem b1_70_7F (sel : BitVec 4) : Statement (.b1_70_7F sel) := by revert sel; unfold Statement; decide
theorem b1_80 : Statement .b1_80 := rfl
theorem b1_81 : Statement .b1_81 := rfl
theorem b1_82_83 (sel : BitVec 1) : Statement (.b1_82_83 sel) := by revert sel; unfold Statement; decide
theorem b1_84_87 (sel : BitVec 2) : Statement (.b1_84_87 sel) := by revert sel; unfold Statement; decide
theorem b1_88_8F (sel : BitVec 3) : Statement (.b1_88_8F sel) := by revert sel; unfold Statement; decide
theorem b1_90_97 (sel : BitVec 3) : Statement (.b1_90_97 sel) := by revert sel; unfold Statement; decide
theorem b1_98_99 (sel : BitVec 1) : Statement (.b1_98_99 sel) := by revert sel; unfold Statement; decide
theorem b1_9A : Statement .b1_9A := rfl
theorem b1_9B : Statement .b1_9B := rfl
theorem b1_9C_9F (sel : BitVec 2) : Statement (.b1_9C_9F sel) := by revert sel; unfold Statement; decide
theorem b1_A0_A3 (sel : BitVec 2) : Statement (.b1_A0_A3 sel) := by revert sel; unfold Statement; decide
theorem b1_A4_A7 (sel : BitVec 2) : Statement (.b1_A4_A7 sel) := by revert sel; unfold Statement; decide
theorem b1_A8 : Statement .b1_A8 := rfl
theorem b1_A9 : Statement .b1_A9 := rfl
theorem b1_AA_AB (sel : BitVec 1) : Statement (.b1_AA_AB sel) := by revert sel; unfold Statement; decide
theorem b1_AC_AF (sel : BitVec 2) : Statement (.b1_AC_AF sel) := by revert sel; unfold Statement; decide
theorem b1_B0_B7 (sel : BitVec 3) : Statement (.b1_B0_B7 sel) := by revert sel; unfold Statement; decide
theorem b1_B8_BF (sel : BitVec 3) : Statement (.b1_B8_BF sel) := by revert sel; unfold Statement; decide
theorem b1_C0_C1 (sel : BitVec 1) : Statement (.b1_C0_C1 sel) := by revert sel; unfold Statement; decide
theorem b1_C2 : Statement .b1_C2 := rfl
theorem b1_C3 : Statement .b1_C3 := rfl
theorem b1_C4_C5 (sel : BitVec 1) : Statement (.b1_C4_C5 sel) := by revert sel; unfold Statement; decide
theorem b1_C6 : Statement .b1_C6 := rfl
theorem b1_C7 : Statement .b1_C7 := rfl
theorem b1_C8 : Statement .b1_C8 := rfl
theorem b1_C9 : Statement .b1_C9 := rfl
theorem b1_CA : Statement .b1_CA := rfl
theorem b1_CB : Statement .b1_CB := rfl
theorem b1_CC : Statement .b1_CC := rfl
theorem b1_CD : Statement .b1_CD := rfl
theorem b1_CE_CF (sel : BitVec 1) : Statement (.b1_CE_CF sel) := by revert sel; unfold Statement; decide
theorem b1_D0_D3 (sel : BitVec 2) : Statement (.b1_D0_D3 sel) := by revert sel; unfold Statement; decide
theorem b1_D4_D5 (sel : BitVec 1) : Statement (.b1_D4_D5 sel) := by revert sel; unfold Statement; decide
theorem b1_D6_D7 (sel : BitVec 1) : Statement (.b1_D6_D7 sel) := by revert sel; unfold Statement; decide
theorem b1_D8_DF (sel : BitVec 3) : Statement (.b1_D8_DF sel) := by revert sel; unfold Statement; decide
theorem b1_E0_E7 (sel : BitVec 3) : Statement (.b1_E0_E7 sel) := by revert sel; unfold Statement; decide
theorem b1_E8_E9 (sel : BitVec 1) : Statement (.b1_E8_E9 sel) := by revert sel; unfold Statement; decide
theorem b1_EA : Statement .b1_EA := rfl
theorem b1_EB : Statement .b1_EB := rfl
theorem b1_EC_EF (sel : BitVec 2) : Statement (.b1_EC_EF sel) := by revert sel; unfold Statement; decide
theorem b1_F0 : Statement .b1_F0 := rfl
theorem b1_F1 : Statement .b1_F1 := rfl
theorem b1_F2_F3 (sel : BitVec 1) : Statement (.b1_F2_F3 sel) := by revert sel; unfold Statement; decide
theorem b1_F4_F5 (sel : BitVec 1) : Statement (.b1_F4_F5 sel) := by revert sel; unfold Statement; decide
theorem b1_F6 : Statement .b1_F6 := rfl
theorem b1_F7 : Statement .b1_F7 := rfl
theorem b1_F8_FB (sel : BitVec 2) : Statement (.b1_F8_FB sel) := by revert sel; unfold Statement; decide
theorem b1_FC_FD (sel : BitVec 1) : Statement (.b1_FC_FD sel) := by revert sel; unfold Statement; decide
theorem b1_FE_FF (sel : BitVec 1) : Statement (.b1_FE_FF sel) := by revert sel; unfold Statement; decide
theorem rex_40_4F (sel : BitVec 4) : Statement (.rex_40_4F sel) := by revert sel; unfold Statement; decide
theorem b2_0F_00_03 (sel : BitVec 2) : Statement (.b2_0F_00_03 sel) := by revert sel; unfold Statement; decide
theorem b2_0F_04 : Statement .b2_0F_04 := rfl
theorem b2_0F_05 : Statement .b2_0F_05 := rfl
theorem b2_0F_06_07 (sel : BitVec 1) : Statement (.b2_0F_06_07 sel) := by revert sel; unfold Statement; decide
theorem b2_0F_08_09 (sel : BitVec 1) : Statement (.b2_0F_08_09 sel) := by revert sel; unfold Statement; decide
theorem b2_0F_0A : Statement .b2_0F_0A := rfl
theorem b2_0F_0B : Statement .b2_0F_0B := rfl
theorem b2_0F_0C : Statement .b2_0F_0C := rfl
theorem b2_0F_0D : Statement .b2_0F_0D := rfl
theorem b2_0F_0E : Statement .b2_0F_0E := rfl
theorem b2_0F_0F : Statement .b2_0F_0F := rfl
theorem b2_0F_10_1F (sel : BitVec 4) : Statement (.b2_0F_10_1F sel) := by revert sel; unfold Statement; decide
theorem b2_0F_20_23 (sel : BitVec 2) : Statement (.b2_0F_20_23 sel) := by revert sel; unfold Statement; decide
theorem b2_0F_24_27 (sel : BitVec 2) : Statement (.b2_0F_24_27 sel) := by revert sel; unfold Statement; decide
theorem b2_0F_28_2F (sel : BitVec 3) : Statement (.b2_0F_28_2F sel) := by revert sel; unfold Statement; decide
theorem b2_0F_30_33 (sel : BitVec 2) : Statement (.b2_0F_30_33 sel) := by revert sel; unfold Statement; decide
theorem b2_0F_34_35 (sel : BitVec 1) : Statement (.b2_0F_34_35 sel) := by revert sel; unfold Statement; decide
theorem b2_0F_36 : Statement .b2_0F_36 := rfl
theorem b2_0F_37 : Statement .b2_0F_37 := rfl
theorem b2_0F_38 : Statement .b2_0F_38 := rfl
theorem b2_0F_39 : Statement .b2_0F_39 := rfl
theorem b2_0F_3A : Statement .b2_0F_3A := rfl
theorem b2_0F_3B : Statement .b2_0F_3B := rfl
theorem b2_0F_3C_3F (sel : BitVec 2) : Statement (.b2_0F_3C_3F sel) := by revert sel; unfold Statement; decide
theorem b2_0F_40_5F (sel : BitVec 5) : Statement (.b2_0F_40_5F sel) := by revert sel; unfold Statement; decide
theorem b2_0F_60_6F (sel : BitVec 4) : Statement (.b2_0F_60_6F sel) := by revert sel; unfold Statement; decide
theorem b2_0F_70_73 (sel : BitVec 2) : Statement (.b2_0F_70_73 sel) := by revert sel; unfold Statement; decide
theorem b2_0F_74_75 (sel : BitVec 1) : Statement (.b2_0F_74_75 sel) := by revert sel; unfold Statement; decide
theorem b2_0F_76 : Statement .b2_0F_76 := rfl
theorem b2_0F_77 : Statement .b2_0F_77 := rfl
theorem b2_0F_78_79 (sel : BitVec 1) : Statement (.b2_0F_78_79 sel) := by revert sel; unfold Statement; decide
theorem b2_0F_7A_7B (sel : BitVec 1) : Statement (.b2_0F_7A_7B sel) := by revert sel; unfold Statement; decide
theorem b2_0F_7C_7F (sel : BitVec 2) : Statement (.b2_0F_7C_7F sel) := by revert sel; unfold Statement; decide
theorem b2_0F_80_8F (sel : BitVec 4) : Statement (.b2_0F_80_8F sel) := by revert sel; unfold Statement; decide
theorem b2_0F_90_9F (sel : BitVec 4) : Statement (.b2_0F_90_9F sel) := by revert sel; unfold Statement; decide
theorem b2_0F_A0_A1 (sel : BitVec 1) : Statement (.b2_0F_A0_A1 sel) := by revert sel; unfold Statement; decide
theorem b2_0F_A2 : Statement .b2_0F_A2 := rfl
theorem b2_0F_A3 : Statement .b2_0F_A3 := rfl
theorem b2_0F_A4 : Statement .b2_0F_A4 := rfl
theorem b2_0F_A5 : Statement .b2_0F_A5 := rfl
theorem b2_0F_A6_A7 (sel : BitVec 1) : Statement (.b2_0F_A6_A7 sel) := by revert sel; unfold Statement; decide
theorem b2_0F_A8_A9 (sel : BitVec 1) : Statement (.b2_0F_A8_A9 sel) := by revert sel; unfold Statement; decide
theorem b2_0F_AA : Statement .b2_0F_AA := rfl
theorem b2_0F_AB : Statement .b2_0F_AB := rfl
theorem b2_0F_AC : Statement .b2_0F_AC := rfl
theorem b2_0F_AD : Statement .b2_0F_AD := rfl
theorem b2_0F_AE_AF (sel : BitVec 1) : Statement (.b2_0F_AE_AF sel) := by revert sel; unfold Statement; decide
theorem b2_0F_B0_B7 (sel : BitVec 3) : Statement (.b2_0F_B0_B7 sel) := by revert sel; unfold Statement; decide
theorem b2_0F_B8_B9 (sel : BitVec 1) : Statement (.b2_0F_B8_B9 sel) := by revert sel; unfold Statement; decide
theorem b2_0F_BA : Statement .b2_0F_BA := rfl
theorem b2_0F_BB : Statement .b2_0F_BB := rfl
theorem b2_0F_BC_BF (sel : BitVec 2) : Statement (.b2_0F_BC_BF sel) := by revert sel; unfold Statement; decide
theorem b2_0F_C0_C1 (sel : BitVec 1) : Statement (.b2_0F_C0_C1 sel) := by revert sel; unfold Statement; decide
theorem b2_0F_C2 : Statement .b2_0F_C2 := rfl
theorem b2_0F_C3 : Statement .b2_0F_C3 := rfl
theorem b2_0F_C4_C5 (sel : BitVec 1) : Statement (.b2_0F_C4_C5 sel) := by revert sel; unfold Statement; decide
theorem b2_0F_C6 : Statement .b2_0F_C6 := rfl
theorem b2_0F_C7 : Statement .b2_0F_C7 := rfl
theorem b2_0F_C8_CF (sel : BitVec 3) : Statement (.b2_0F_C8_CF sel) := by revert sel; unfold Statement; decide
theorem b2_0F_D0_DF (sel : BitVec 4) : Statement (.b2_0F_D0_DF sel) := by revert sel; unfold Statement; decide
theorem b2_0F_E0_EF (sel : BitVec 4) : Statement (.b2_0F_E0_EF sel) := by revert sel; unfold Statement; decide
theorem b2_0F_F0_F7 (sel : BitVec 3) : Statement (.b2_0F_F0_F7 sel) := by revert sel; unfold Statement; decide
theorem b2_0F_F8_FB (sel : BitVec 2) : Statement (.b2_0F_F8_FB sel) := by revert sel; unfold Statement; decide
theorem b2_0F_FC_FD (sel : BitVec 1) : Statement (.b2_0F_FC_FD sel) := by revert sel; unfold Statement; decide
theorem b2_0F_FE : Statement .b2_0F_FE := rfl
theorem b2_0F_FF : Statement .b2_0F_FF := rfl
theorem b3_0F38_00_07 (sel : BitVec 3) : Statement (.b3_0F38_00_07 sel) := by revert sel; unfold Statement; decide
theorem b3_0F38_08_0B (sel : BitVec 2) : Statement (.b3_0F38_08_0B sel) := by revert sel; unfold Statement; decide
theorem b3_0F38_0C_0F (sel : BitVec 2) : Statement (.b3_0F38_0C_0F sel) := by revert sel; unfold Statement; decide
theorem b3_0F38_10 : Statement .b3_0F38_10 := rfl
theorem b3_0F38_11 : Statement .b3_0F38_11 := rfl
theorem b3_0F38_12_13 (sel : BitVec 1) : Statement (.b3_0F38_12_13 sel) := by revert sel; unfold Statement; decide
theorem b3_0F38_14_15 (sel : BitVec 1) : Statement (.b3_0F38_14_15 sel) := by revert sel; unfold Statement; decide
theorem b3_0F38_16 : Statement .b3_0F38_16 := rfl
theorem b3_0F38_17 : Statement .b3_0F38_17 := rfl
theorem b3_0F38_18_1B (sel : BitVec 2) : Statement (.b3_0F38_18_1B sel) := by revert sel; unfold Statement; decide
theorem b3_0F38_1C_1D (sel : BitVec 1) : Statement (.b3_0F38_1C_1D sel) := by revert sel; unfold Statement; decide
theorem b3_0F38_1E : Statement .b3_0F38_1E := rfl
theorem b3_0F38_1F : Statement .b3_0F38_1F := rfl
theorem b3_0F38_20_23 (sel : BitVec 2) : Statement (.b3_0F38_20_23 sel) := by revert sel; unfold Statement; decide
theorem b3_0F38_24_25 (sel : BitVec 1) : Statement (.b3_0F38_24_25 sel) := by revert sel; unfold Statement; decide
theorem b3_0F38_26_27 (sel : BitVec 1) : Statement (.b3_0F38_26_27 sel) := by revert sel; unfold Statement; decide
theorem b3_0F38_28_2B (sel : BitVec 2) : Statement (.b3_0F38_28_2B sel) := by revert sel; unfold Statement; decide
theorem b3_0F38_2C_2F (sel : BitVec 2) : Statement (.b3_0F38_2C_2F sel) := by revert sel; unfold Statement; decide
theorem b3_0F38_30_33 (sel : BitVec 2) : Statement (.b3_0F38_30_33 sel) := by revert sel; unfold Statement; decide
theorem b3_0F38_34_35 (sel : BitVec 1) : Statement (.b3_0F38_34_35 sel) := by revert sel; unfold Statement; decide
theorem b3_0F38_36 : Statement .b3_0F38_36 := rfl
theorem b3_0F38_37 : Statement .b3_0F38_37 := rfl
theorem b3_0F38_38_3F (sel : BitVec 3) : Statement (.b3_0F38_38_3F sel) := by revert sel; unfold Statement; decide
theorem b3_0F38_40_41 (sel : BitVec 1) : Statement (.b3_0F38_40_41 sel) := by revert sel; unfold Statement; decide
theorem b3_0F38_42_43 (sel : BitVec 1) : Statement (.b3_0F38_42_43 sel) := by revert sel; unfold Statement; decide
theorem b3_0F38_44_47 (sel : BitVec 2) : Statement (.b3_0F38_44_47 sel) := by revert sel; unfold Statement; decide
theorem b3_0F38_48_4F (sel : BitVec 3) : Statement (.b3_0F38_48_4F sel) := by revert sel; unfold Statement; decide
theorem b3_0F38_50_5F (sel : BitVec 4) : Statement (.b3_0F38_50_5F sel) := by revert sel; unfold Statement; decide
theorem b3_0F38_60_7F (sel : BitVec 5) : Statement (.b3_0F38_60_7F sel) := by revert sel; unfold Statement; decide
theorem b3_0F38_80_81 (sel : BitVec 1) : Statement (.b3_0F38_80_81 sel) := by revert sel; unfold Statement; decide
theorem b3_0F38_82 : Statement .b3_0F38_82 := rfl
theorem b3_0F38_83 : Statement .b3_0F38_83 := rfl
theorem b3_0F38_84_87 (sel : BitVec 2) : Statement (.b3_0F38_84_87 sel) := by revert sel; unfold Statement; decide
theorem b3_0F38_88_8F (sel : BitVec 3) : Statement (.b3_0F38_88_8F sel) := by revert sel; unfold Statement; decide
theorem b3_0F38_90_9F (sel : BitVec 4) : Statement (.b3_0F38_90_9F sel) := by revert sel; unfold Statement; decide
theorem b3_0F38_A0_BF (sel : BitVec 5) : Statement (.b3_0F38_A0_BF sel) := by revert sel; unfold Statement; decide
theorem b3_0F38_C0_C7 (sel : BitVec 3) : Statement (.b3_0F38_C0_C7 sel) := by revert sel; unfold Statement; decide
theorem b3_0F38_C8_CB (sel : BitVec 2) : Statement (.b3_0F38_C8_CB sel) := by revert sel; unfold Statement; decide
theorem b3_0F38_CC_CD (sel : BitVec 1) : Statement (.b3_0F38_CC_CD sel) := by revert sel; unfold Statement; decide
theorem b3_0F38_CE_CF (sel : BitVec 1) : Statement (.b3_0F38_CE_CF sel) := by revert sel; unfold Statement; decide
theorem b3_0F38_D0_D7 (sel : BitVec 3) : Statement (.b3_0F38_D0_D7 sel) := by revert sel; unfold Statement; decide
theorem b3_0F38_D8_D9 (sel : BitVec 1) : Statement (.b3_0F38_D8_D9 sel) := by revert sel; unfold Statement; decide
theorem b3_0F38_DA : Statement .b3_0F38_DA := rfl
theorem b3_0F38_DB : Statement .b3_0F38_DB := rfl
theorem b3_0F38_DC_DF (sel : BitVec 2) : Statement (.b3_0F38_DC_DF sel) := by revert sel; unfold Statement; decide
theorem b3_0F38_E0_EF (sel : BitVec 4) : Statement (.b3_0F38_E0_EF sel) := by revert sel; unfold Statement; decide
theorem b3_0F38_F0_F1 (sel : BitVec 1) : Statement (.b3_0F38_F0_F1 sel) := by revert sel; unfold Statement; decide
theorem b3_0F38_F2_F3 (sel : BitVec 1) : Statement (.b3_0F38_F2_F3 sel) := by revert sel; unfold Statement; decide
theorem b3_0F38_F4_F5 (sel : BitVec 1) : Statement (.b3_0F38_F4_F5 sel) := by revert sel; unfold Statement; decide
theorem b3_0F38_F6 : Statement .b3_0F38_F6 := rfl
theorem b3_0F38_F7 : Statement .b3_0F38_F7 := rfl
theorem b3_0F38_F8_FF (sel : BitVec 3) : Statement (.b3_0F38_F8_FF sel) := by revert sel; unfold Statement; decide
theorem b3_0F3A_00_07 (sel : BitVec 3) : Statement (.b3_0F3A_00_07 sel) := by revert sel; unfold Statement; decide
theorem b3_0F3A_08_0F (sel : BitVec 3) : Statement (.b3_0F3A_08_0F sel) := by revert sel; unfold Statement; decide
theorem b3_0F3A_10_13 (sel : BitVec 2) : Statement (.b3_0F3A_10_13 sel) := by revert sel; unfold Statement; decide
theorem b3_0F3A_14_17 (sel : BitVec 2) : Statement (.b3_0F3A_14_17 sel) := by revert sel; unfold Statement; decide
theorem b3_0F3A_18_1F (sel : BitVec 3) : Statement (.b3_0F3A_18_1F sel) := by revert sel; unfold Statement; decide
theorem b3_0F3A_20_21 (sel : BitVec 1) : Statement (.b3_0F3A_20_21 sel) := by revert sel; unfold Statement; decide
theorem b3_0F3A_22 : Statement .b3_0F3A_22 := rfl
theorem b3_0F3A_23 : Statement .b3_0F3A_23 := rfl
theorem b3_0F3A_24_27 (sel : BitVec 2) : Statement (.b3_0F3A_24_27 sel) := by revert sel; unfold Statement; decide
theorem b3_0F3A_28_2F (sel : BitVec 3) : Statement (.b3_0F3A_28_2F sel) := by revert sel; unfold Statement; decide
theorem b3_0F3A_30_3F (sel : BitVec 4) : Statement (.b3_0F3A_30_3F sel) := by revert sel; unfold Statement; decide
theorem b3_0F3A_40_41 (sel : BitVec 1) : Statement (.b3_0F3A_40_41 sel) := by revert sel; unfold Statement; decide
theorem b3_0F3A_42 : Statement .b3_0F3A_42 := rfl
theorem b3_0F3A_43 : Statement .b3_0F3A_43 := rfl
theorem b3_0F3A_44 : Statement .b3_0F3A_44 := rfl
theorem b3_0F3A_45 : Statement .b3_0F3A_45 := rfl
theorem b3_0F3A_46_47 (sel : BitVec 1) : Statement (.b3_0F3A_46_47 sel) := by revert sel; unfold Statement; decide
theorem b3_0F3A_48_4F (sel : BitVec 3) : Statement (.b3_0F3A_48_4F sel) := by revert sel; unfold Statement; decide
theorem b3_0F3A_50_5F (sel : BitVec 4) : Statement (.b3_0F3A_50_5F sel) := by revert sel; unfold Statement; decide
theorem b3_0F3A_60_63 (sel : BitVec 2) : Statement (.b3_0F3A_60_63 sel) := by revert sel; unfold Statement; decide
theorem b3_0F3A_64_67 (sel : BitVec 2) : Statement (.b3_0F3A_64_67 sel) := by revert sel; unfold Statement; decide
theorem b3_0F3A_68_6F (sel : BitVec 3) : Statement (.b3_0F3A_68_6F sel) := by revert sel; unfold Statement; decide
theorem b3_0F3A_70_7F (sel : BitVec 4) : Statement (.b3_0F3A_70_7F sel) := by revert sel; unfold Statement; decide
theorem b3_0F3A_80_BF (sel : BitVec 6) : Statement (.b3_0F3A_80_BF sel) := by revert sel; unfold Statement; decide
theorem b3_0F3A_C0_C7 (sel : BitVec 3) : Statement (.b3_0F3A_C0_C7 sel) := by revert sel; unfold Statement; decide
theorem b3_0F3A_C8_CB (sel : BitVec 2) : Statement (.b3_0F3A_C8_CB sel) := by revert sel; unfold Statement; decide
theorem b3_0F3A_CC : Statement .b3_0F3A_CC := rfl
theorem b3_0F3A_CD : Statement .b3_0F3A_CD := rfl
theorem b3_0F3A_CE_CF (sel : BitVec 1) : Statement (.b3_0F3A_CE_CF sel) := by revert sel; unfold Statement; decide
theorem b3_0F3A_D0_D7 (sel : BitVec 3) : Statement (.b3_0F3A_D0_D7 sel) := by revert sel; unfold Statement; decide
theorem b3_0F3A_D8_DB (sel : BitVec 2) : Statement (.b3_0F3A_D8_DB sel) := by revert sel; unfold Statement; decide
theorem b3_0F3A_DC_DD (sel : BitVec 1) : Statement (.b3_0F3A_DC_DD sel) := by revert sel; unfold Statement; decide
theorem b3_0F3A_DE : Statement .b3_0F3A_DE := rfl
theorem b3_0F3A_DF : Statement .b3_0F3A_DF := rfl
theorem b3_0F3A_E0_FF (sel : BitVec 5) : Statement (.b3_0F3A_E0_FF sel) := by revert sel; unfold Statement; decide

end Sys2Proof.Laws.TableRow
end

