-- ==== Sys2Proof/Laws/Step.lean ====
section
/-! SUPPORT. Everything a step can do, said once: an idle block, a host write, a command of an accepted instance. -/

namespace Sys2Proof.Machine

open Host

/-- A step that answers a next state: nothing was pending, or the host wrote a byte of its buffer, or an accepted instance
ran the command of a message. -/
theorem step_next {s t : State} (h : step s = .next t) :
    (s.host = [] ∧ t = s)
      ∨ (∃ a b rest, s.host = .write a b :: rest ∧ a < s.mem.size
          ∧ t = { s with mem := s.mem.setByte a b, host := rest })
      ∨ ∃ message rest i, s.host = .command message :: rest ∧ decodeMessage message = .ok i
          ∧ instanceAccepted s.cfg = true ∧ exec (resolve i { s with host := rest }) { s with host := rest } = .next t := by
  unfold step at h
  split at h
  · rename_i hs
    cases h
    exact .inl ⟨hs, rfl⟩
  · rename_i a b rest hs
    unfold hostWrite at h
    split at h
    · rename_i ha
      cases h
      exact .inr (.inl ⟨a, b, rest, hs, (holds_iff ..).mp ha, rfl⟩)
    · cases h
  · rename_i message rest hs
    unfold runMessage at h
    split at h
    · rename_i ha
      split at h
      · rename_i i hi
        exact .inr (.inr ⟨message, rest, i, hs, hi, ha, h⟩)
      · cases h
    · cases h

/-- A step that ends in a fault runs the command of a message, and the command's meaning ends in that fault. -/
theorem step_fault {s : State} {r : Machine.Fault} (h : step s = .fault r) :
    ∃ message rest i, s.host = .command message :: rest ∧ decodeMessage message = .ok i
      ∧ exec (resolve i { s with host := rest }) { s with host := rest } = .fault r := by
  unfold step at h
  split at h
  · cases h
  · unfold hostWrite at h
    split at h <;> cases h
  · rename_i message rest hs
    unfold runMessage at h
    split at h
    · split at h
      · rename_i i hi
        exact ⟨message, rest, i, hs, hi, h⟩
      · cases h
    · cases h

end Sys2Proof.Machine
end

