-- ==== Sys2Proof/Tests/Slice0.lean ====
section
/-! SUPPORT. Tests: ill-formed instructions, the decoding of every constructor, single steps with the expected results of
spec/95_test_vectors.md and of the rules' own examples, and a witness for the hypotheses of every statement. -/

namespace Sys2Proof.Tests

open Sys2Proof.Machine Host

/-! Helpers. -/

/-- A buffer of exactly these bytes. -/
def bufferOf (bs : List Byte) : Memory := ({ size := bs.length, cells := [] } : Memory).setBytes 0 bs

/-- An instance with T_default. -/
def config (arch : Arch) : Config := { builtConfig with arch := arch }

/-- A block bound to the whole of a buffer from address 0x1000, with one read-only and one mutable view of the buffer. -/
def bound (arch : Arch) (bs : List Byte) : State :=
  { State.reset with
    cfg := config arch
    endIdx := bs.length
    va := 0x1000#64
    mem := bufferOf bs
    views := [View.mk 0 bs.length false, View.mk 0 bs.length true] }

def stateAfter : Outcome State Machine.Fault Refusal → Option State
  | .next t => some t
  | _ => none

def respOf (o : Outcome State Machine.Fault Refusal) : Option Response := (stateAfter o).map State.resp

def bytesOf (o : Outcome State Machine.Fault Refusal) (n : Nat) : Option (List Byte) :=
  (stateAfter o).map fun t => t.mem.slice 0 n

def refusalOf : Outcome State Machine.Fault Refusal → Option Refusal
  | .refused r => some r
  | _ => none

/-- The rows read from texts. -/
def readRows (arch : Arch) (words : List (List Byte)) : List (Option Instr) :=
  words.map fun bs =>
    match decodeText arch bs with
    | .ok i => some i
    | .error _ => none

/-- The commands read from messages. -/
def readMessages (messages : List (List Byte)) : List (Option Instr) :=
  messages.map fun bs =>
    match decodeMessage bs with
    | .ok i => some i
    | .error _ => none

/-! Ill-formed instructions, one for each check of WellFormed. -/

/-- R180: a view of no bytes. -/
theorem test_view_of_no_bytes_is_ill_formed : wellFormed .x64 (.viewLen (View.mk 3 0 true)) = false := by decide

/-- R180: also as the second view of a comparison. -/
theorem test_second_view_of_no_bytes_is_ill_formed :
    wellFormed .x86 (.viewCmp (View.mk 0 1 false) (View.mk 0 0 false)) = false := by decide

/-- R223: on X86 a start address has 32 bits. -/
theorem test_wide_address_is_ill_formed :
    wellFormed .x86 (.iterStart 0 1 0x100000000#64 false) = false
      ∧ wellFormed .x64 (.iterStart 0 1 0x100000000#64 false) = true := by decide

/-- R83: X86 has no REX prefix. -/
theorem test_rex_on_x86_is_ill_formed : wellFormed .x86 (.rex_40_4F 0x8#4) = false := by decide

/-- R128: on X64 the bytes 40 to 4F are the REX row's. -/
theorem test_rex_byte_as_opcode_is_ill_formed :
    wellFormed .x64 (.b1_40_5F 0x0F#5) = false ∧ wellFormed .x64 (.b1_40_5F 0x10#5) = true
      ∧ wellFormed .x86 (.b1_40_5F 0x0F#5) = true := by decide

/-! Decoding. -/

/-- R18: a message of each command, its ordinal from the opcode table. -/
theorem test_decode_commands_a :
    readMessages
      [[0x00#8], [0x01#8, 0x05#8, 0x07#8], [0x02#8, 0x80#8, 0x01#8, 0x00#8],
        [0x03#8, 0x01#8, 0x02#8, 0x00#8, 0x10#8, 0x00#8, 0x00#8, 0x00#8, 0x00#8, 0x00#8, 0x80#8, 0x01#8],
        [0x04#8], [0x05#8, 0x09#8], [0x06#8, 0x02#8, 0x03#8, 0x01#8], [0x07#8, 0x02#8, 0x03#8, 0x00#8],
        [0x08#8, 0x02#8, 0x03#8, 0x00#8, 0x01#8], [0x09#8, 0x02#8, 0x03#8, 0x00#8, 0x01#8],
        [0x0A#8, 0x02#8, 0x03#8, 0x00#8, 0x01#8], [0x0B#8, 0x02#8, 0x03#8, 0x00#8, 0x01#8],
        [0x0C#8, 0x02#8, 0x03#8, 0x00#8, 0x01#8], [0x0D#8, 0x02#8, 0x03#8, 0x00#8, 0x01#8],
        [0x0E#8, 0x02#8, 0x03#8, 0x00#8, 0x01#8], [0x0F#8, 0x02#8, 0x03#8, 0x00#8, 0x01#8]]
      = [some .reset, some (.decodeBreakdown 5 7), some (.decodeLen 128 0),
          some (.iterStart 1 2 0x8000000000001000#64 true), some .iterNext, some (.iterSkip 9),
          some (.viewLen (View.mk 2 4 true)), some (.viewBytes (View.mk 2 4 false)),
          some (.viewReadU8 (View.mk 2 4 false) 1), some (.viewReadU16 (View.mk 2 4 false) 1),
          some (.viewReadU32 (View.mk 2 4 false) 1), some (.viewReadU64 (View.mk 2 4 false) 1),
          some (.viewReadI8 (View.mk 2 4 false) 1), some (.viewReadI16 (View.mk 2 4 false) 1),
          some (.viewReadI32 (View.mk 2 4 false) 1), some (.viewReadI64 (View.mk 2 4 false) 1)] := by
  decide

/-- R18, and the values of R204: least significant byte first. -/
theorem test_decode_commands_b :
    readMessages
      [[0x10#8, 0x02#8, 0x03#8, 0x01#8, 0x00#8, 0xFE#8], [0x11#8, 0x02#8, 0x03#8, 0x01#8, 0x00#8, 0xFE#8, 0xCA#8],
        [0x12#8, 0x02#8, 0x03#8, 0x01#8, 0x00#8, 0x01#8, 0x02#8, 0x03#8, 0x04#8],
        [0x13#8, 0x02#8, 0x03#8, 0x01#8, 0x00#8, 0x01#8, 0x02#8, 0x03#8, 0x04#8, 0x05#8, 0x06#8, 0x07#8, 0x08#8],
        [0x14#8, 0x02#8, 0x03#8, 0x01#8, 0x00#8, 0xFE#8], [0x15#8, 0x02#8, 0x03#8, 0x01#8, 0x00#8, 0xFE#8, 0xCA#8],
        [0x16#8, 0x02#8, 0x03#8, 0x01#8, 0x00#8, 0x01#8, 0x02#8, 0x03#8, 0x04#8],
        [0x17#8, 0x02#8, 0x03#8, 0x01#8, 0x00#8, 0x01#8, 0x02#8, 0x03#8, 0x04#8, 0x05#8, 0x06#8, 0x07#8, 0x08#8],
        [0x18#8, 0x02#8, 0x03#8, 0x01#8, 0x09#8, 0x00#8, 0x00#8], [0x19#8, 0x02#8, 0x03#8, 0x01#8, 0x09#8, 0x00#8, 0x00#8],
        [0x1A#8, 0x02#8, 0x03#8, 0x01#8]]
      = [some (.viewWriteU8 (View.mk 2 4 true) 0 0xFE#8), some (.viewWriteU16 (View.mk 2 4 true) 0 0xCAFE#16),
          some (.viewWriteU32 (View.mk 2 4 true) 0 0x04030201#32),
          some (.viewWriteU64 (View.mk 2 4 true) 0 0x0807060504030201#64),
          some (.viewWriteI8 (View.mk 2 4 true) 0 0xFE#8), some (.viewWriteI16 (View.mk 2 4 true) 0 0xCAFE#16),
          some (.viewWriteI32 (View.mk 2 4 true) 0 0x04030201#32),
          some (.viewWriteI64 (View.mk 2 4 true) 0 0x0807060504030201#64),
          some (.viewEq (View.mk 2 4 true) (View.mk 9 1 false)), some (.viewCmp (View.mk 2 4 true) (View.mk 9 1 false)),
          some (.viewHash (View.mk 2 4 true))] := by
  decide

/-- Messages that are no command, each with its reason. -/
theorem test_decode_refuses_by_name :
    decodeMessage [] = .error .empty ∧ decodeMessage [0x1B#8] = .error (.unknownOrdinal 0x1B#8)
      ∧ decodeMessage [0x05#8, 0x80#8] = .error .truncated
      ∧ decodeMessage [0x05#8, 0x80#8, 0x00#8] = .error .overlongNumber
      ∧ decodeMessage [0x06#8, 0x00#8, 0x00#8, 0x02#8] = .error (.badBit 0x02#8)
      ∧ decodeMessage [0x04#8, 0x04#8] = .error (.trailing 1) := by
  decide

/-- R83, R128: the REX row and the one-byte row of the same bytes. -/
theorem test_decode_rex :
    readRows .x64 [[0x48#8], [0x4F#8, 0x83#8], [0x50#8]] = [some (.rex_40_4F 0x8#4), some (.rex_40_4F 0xF#4), some (.b1_40_5F 0x10#5)]
      ∧ readRows .x86 [[0x48#8], [0x4F#8, 0x83#8]] = [some (.b1_40_5F 0x08#5), some (.b1_40_5F 0x0F#5)] := by
  decide

/-- Opcode table, one-byte map, part 1: the word of each row with its free bits set. -/
theorem test_decode_one_a :
    readRows .x86
      [[0x02#8], [0x04#8], [0x05#8], [0x07#8], [0x0A#8], [0x0C#8], [0x0D#8], [0x0E#8], [0x0F#8], [0x12#8], [0x14#8],
        [0x15#8], [0x17#8], [0x1A#8], [0x1C#8], [0x1D#8], [0x1F#8], [0x22#8], [0x24#8], [0x25#8], [0x26#8], [0x27#8],
        [0x2A#8], [0x2C#8]]
      = [some (.b1_00_03 0x2#2), some .b1_04, some .b1_05, some (.b1_06_07 0x1#1), some (.b1_08_0B 0x2#2),
        some .b1_0C, some .b1_0D, some .b1_0E, some .b1_0F, some (.b1_10_13 0x2#2), some .b1_14, some .b1_15,
        some (.b1_16_17 0x1#1), some (.b1_18_1B 0x2#2), some .b1_1C, some .b1_1D, some (.b1_1E_1F 0x1#1),
        some (.b1_20_23 0x2#2), some .b1_24, some .b1_25, some .b1_26, some .b1_27, some (.b1_28_2B 0x2#2),
        some .b1_2C] := by
  decide

/-- Opcode table, one-byte map, part 2: the word of each row with its free bits set. -/
theorem test_decode_one_b :
    readRows .x86
      [[0x2D#8], [0x2E#8], [0x2F#8], [0x32#8], [0x34#8], [0x35#8], [0x36#8], [0x37#8], [0x3A#8], [0x3C#8], [0x3D#8],
        [0x3E#8], [0x3F#8], [0x5E#8], [0x61#8], [0x63#8], [0x66#8], [0x68#8], [0x69#8], [0x6A#8], [0x6B#8], [0x6E#8],
        [0x7E#8], [0x80#8]]
      = [some .b1_2D, some .b1_2E, some .b1_2F, some (.b1_30_33 0x2#2), some .b1_34, some .b1_35, some .b1_36,
        some .b1_37, some (.b1_38_3B 0x2#2), some .b1_3C, some .b1_3D, some .b1_3E, some .b1_3F,
        some (.b1_40_5F 0x1e#5), some (.b1_60_61 0x1#1), some (.b1_62_63 0x1#1), some (.b1_64_67 0x2#2), some .b1_68,
        some .b1_69, some .b1_6A, some .b1_6B, some (.b1_6C_6F 0x2#2), some (.b1_70_7F 0xe#4), some .b1_80] := by
  decide

/-- Opcode table, one-byte map, part 3: the word of each row with its free bits set. -/
theorem test_decode_one_c :
    readRows .x86
      [[0x81#8], [0x83#8], [0x86#8], [0x8E#8], [0x96#8], [0x99#8], [0x9A#8], [0x9B#8], [0x9E#8], [0xA2#8], [0xA6#8],
        [0xA8#8], [0xA9#8], [0xAB#8], [0xAE#8], [0xB6#8], [0xBE#8], [0xC1#8], [0xC2#8], [0xC3#8], [0xC5#8], [0xC6#8],
        [0xC7#8], [0xC8#8]]
      = [some .b1_81, some (.b1_82_83 0x1#1), some (.b1_84_87 0x2#2), some (.b1_88_8F 0x6#3), some (.b1_90_97 0x6#3),
        some (.b1_98_99 0x1#1), some .b1_9A, some .b1_9B, some (.b1_9C_9F 0x2#2), some (.b1_A0_A3 0x2#2),
        some (.b1_A4_A7 0x2#2), some .b1_A8, some .b1_A9, some (.b1_AA_AB 0x1#1), some (.b1_AC_AF 0x2#2),
        some (.b1_B0_B7 0x6#3), some (.b1_B8_BF 0x6#3), some (.b1_C0_C1 0x1#1), some .b1_C2, some .b1_C3,
        some (.b1_C4_C5 0x1#1), some .b1_C6, some .b1_C7, some .b1_C8] := by
  decide

/-- Opcode table, one-byte map, part 4: the word of each row with its free bits set. -/
theorem test_decode_one_d :
    readRows .x86
      [[0xC9#8], [0xCA#8], [0xCB#8], [0xCC#8], [0xCD#8], [0xCF#8], [0xD2#8], [0xD5#8], [0xD7#8], [0xDE#8], [0xE6#8],
        [0xE9#8], [0xEA#8], [0xEB#8], [0xEE#8], [0xF0#8], [0xF1#8], [0xF3#8], [0xF5#8], [0xF6#8], [0xF7#8], [0xFA#8],
        [0xFD#8], [0xFF#8]]
      = [some .b1_C9, some .b1_CA, some .b1_CB, some .b1_CC, some .b1_CD, some (.b1_CE_CF 0x1#1),
        some (.b1_D0_D3 0x2#2), some (.b1_D4_D5 0x1#1), some (.b1_D6_D7 0x1#1), some (.b1_D8_DF 0x6#3),
        some (.b1_E0_E7 0x6#3), some (.b1_E8_E9 0x1#1), some .b1_EA, some .b1_EB, some (.b1_EC_EF 0x2#2),
        some .b1_F0, some .b1_F1, some (.b1_F2_F3 0x1#1), some (.b1_F4_F5 0x1#1), some .b1_F6, some .b1_F7,
        some (.b1_F8_FB 0x2#2), some (.b1_FC_FD 0x1#1), some (.b1_FE_FF 0x1#1)] := by
  decide

/-- Opcode table, two-byte map, part 1: the word of each row with its free bits set. -/
theorem test_decode_two_a :
    readRows .x86
      [[0x0F#8, 0x02#8], [0x0F#8, 0x04#8], [0x0F#8, 0x05#8], [0x0F#8, 0x07#8], [0x0F#8, 0x09#8], [0x0F#8, 0x0A#8],
        [0x0F#8, 0x0B#8], [0x0F#8, 0x0C#8], [0x0F#8, 0x0D#8], [0x0F#8, 0x0E#8], [0x0F#8, 0x0F#8], [0x0F#8, 0x1E#8],
        [0x0F#8, 0x22#8], [0x0F#8, 0x26#8], [0x0F#8, 0x2E#8], [0x0F#8, 0x32#8], [0x0F#8, 0x35#8], [0x0F#8, 0x36#8],
        [0x0F#8, 0x37#8], [0x0F#8, 0x38#8], [0x0F#8, 0x39#8], [0x0F#8, 0x3A#8], [0x0F#8, 0x3B#8], [0x0F#8, 0x3E#8]]
      = [some (.b2_0F_00_03 0x2#2), some .b2_0F_04, some .b2_0F_05, some (.b2_0F_06_07 0x1#1),
        some (.b2_0F_08_09 0x1#1), some .b2_0F_0A, some .b2_0F_0B, some .b2_0F_0C, some .b2_0F_0D, some .b2_0F_0E,
        some .b2_0F_0F, some (.b2_0F_10_1F 0xe#4), some (.b2_0F_20_23 0x2#2), some (.b2_0F_24_27 0x2#2),
        some (.b2_0F_28_2F 0x6#3), some (.b2_0F_30_33 0x2#2), some (.b2_0F_34_35 0x1#1), some .b2_0F_36,
        some .b2_0F_37, some .b2_0F_38, some .b2_0F_39, some .b2_0F_3A, some .b2_0F_3B, some (.b2_0F_3C_3F 0x2#2)] := by
  decide

/-- Opcode table, two-byte map, part 2: the word of each row with its free bits set. -/
theorem test_decode_two_b :
    readRows .x86
      [[0x0F#8, 0x5E#8], [0x0F#8, 0x6E#8], [0x0F#8, 0x72#8], [0x0F#8, 0x75#8], [0x0F#8, 0x76#8], [0x0F#8, 0x77#8],
        [0x0F#8, 0x79#8], [0x0F#8, 0x7B#8], [0x0F#8, 0x7E#8], [0x0F#8, 0x8E#8], [0x0F#8, 0x9E#8], [0x0F#8, 0xA1#8],
        [0x0F#8, 0xA2#8], [0x0F#8, 0xA3#8], [0x0F#8, 0xA4#8], [0x0F#8, 0xA5#8], [0x0F#8, 0xA7#8], [0x0F#8, 0xA9#8],
        [0x0F#8, 0xAA#8], [0x0F#8, 0xAB#8], [0x0F#8, 0xAC#8], [0x0F#8, 0xAD#8], [0x0F#8, 0xAF#8], [0x0F#8, 0xB6#8]]
      = [some (.b2_0F_40_5F 0x1e#5), some (.b2_0F_60_6F 0xe#4), some (.b2_0F_70_73 0x2#2), some (.b2_0F_74_75 0x1#1),
        some .b2_0F_76, some .b2_0F_77, some (.b2_0F_78_79 0x1#1), some (.b2_0F_7A_7B 0x1#1),
        some (.b2_0F_7C_7F 0x2#2), some (.b2_0F_80_8F 0xe#4), some (.b2_0F_90_9F 0xe#4), some (.b2_0F_A0_A1 0x1#1),
        some .b2_0F_A2, some .b2_0F_A3, some .b2_0F_A4, some .b2_0F_A5, some (.b2_0F_A6_A7 0x1#1),
        some (.b2_0F_A8_A9 0x1#1), some .b2_0F_AA, some .b2_0F_AB, some .b2_0F_AC, some .b2_0F_AD,
        some (.b2_0F_AE_AF 0x1#1), some (.b2_0F_B0_B7 0x6#3)] := by
  decide

/-- Opcode table, two-byte map, part 3: the word of each row with its free bits set. -/
theorem test_decode_two_c :
    readRows .x86
      [[0x0F#8, 0xB9#8], [0x0F#8, 0xBA#8], [0x0F#8, 0xBB#8], [0x0F#8, 0xBE#8], [0x0F#8, 0xC1#8], [0x0F#8, 0xC2#8],
        [0x0F#8, 0xC3#8], [0x0F#8, 0xC5#8], [0x0F#8, 0xC6#8], [0x0F#8, 0xC7#8], [0x0F#8, 0xCE#8], [0x0F#8, 0xDE#8],
        [0x0F#8, 0xEE#8], [0x0F#8, 0xF6#8], [0x0F#8, 0xFA#8], [0x0F#8, 0xFD#8], [0x0F#8, 0xFE#8], [0x0F#8, 0xFF#8]]
      = [some (.b2_0F_B8_B9 0x1#1), some .b2_0F_BA, some .b2_0F_BB, some (.b2_0F_BC_BF 0x2#2),
        some (.b2_0F_C0_C1 0x1#1), some .b2_0F_C2, some .b2_0F_C3, some (.b2_0F_C4_C5 0x1#1), some .b2_0F_C6,
        some .b2_0F_C7, some (.b2_0F_C8_CF 0x6#3), some (.b2_0F_D0_DF 0xe#4), some (.b2_0F_E0_EF 0xe#4),
        some (.b2_0F_F0_F7 0x6#3), some (.b2_0F_F8_FB 0x2#2), some (.b2_0F_FC_FD 0x1#1), some .b2_0F_FE,
        some .b2_0F_FF] := by
  decide

/-- Opcode table, 0F 38 map, part 1: the word of each row with its free bits set. -/
theorem test_decode_three38_a :
    readRows .x86
      [[0x0F#8, 0x38#8, 0x06#8], [0x0F#8, 0x38#8, 0x0A#8], [0x0F#8, 0x38#8, 0x0E#8], [0x0F#8, 0x38#8, 0x10#8],
        [0x0F#8, 0x38#8, 0x11#8], [0x0F#8, 0x38#8, 0x13#8], [0x0F#8, 0x38#8, 0x15#8], [0x0F#8, 0x38#8, 0x16#8],
        [0x0F#8, 0x38#8, 0x17#8], [0x0F#8, 0x38#8, 0x1A#8], [0x0F#8, 0x38#8, 0x1D#8], [0x0F#8, 0x38#8, 0x1E#8],
        [0x0F#8, 0x38#8, 0x1F#8], [0x0F#8, 0x38#8, 0x22#8], [0x0F#8, 0x38#8, 0x25#8], [0x0F#8, 0x38#8, 0x27#8],
        [0x0F#8, 0x38#8, 0x2A#8], [0x0F#8, 0x38#8, 0x2E#8], [0x0F#8, 0x38#8, 0x32#8], [0x0F#8, 0x38#8, 0x35#8],
        [0x0F#8, 0x38#8, 0x36#8], [0x0F#8, 0x38#8, 0x37#8], [0x0F#8, 0x38#8, 0x3E#8], [0x0F#8, 0x38#8, 0x41#8]]
      = [some (.b3_0F38_00_07 0x6#3), some (.b3_0F38_08_0B 0x2#2), some (.b3_0F38_0C_0F 0x2#2), some .b3_0F38_10,
        some .b3_0F38_11, some (.b3_0F38_12_13 0x1#1), some (.b3_0F38_14_15 0x1#1), some .b3_0F38_16,
        some .b3_0F38_17, some (.b3_0F38_18_1B 0x2#2), some (.b3_0F38_1C_1D 0x1#1), some .b3_0F38_1E,
        some .b3_0F38_1F, some (.b3_0F38_20_23 0x2#2), some (.b3_0F38_24_25 0x1#1), some (.b3_0F38_26_27 0x1#1),
        some (.b3_0F38_28_2B 0x2#2), some (.b3_0F38_2C_2F 0x2#2), some (.b3_0F38_30_33 0x2#2),
        some (.b3_0F38_34_35 0x1#1), some .b3_0F38_36, some .b3_0F38_37, some (.b3_0F38_38_3F 0x6#3),
        some (.b3_0F38_40_41 0x1#1)] := by
  decide

/-- Opcode table, 0F 38 map, part 2: the word of each row with its free bits set. -/
theorem test_decode_three38_b :
    readRows .x86
      [[0x0F#8, 0x38#8, 0x43#8], [0x0F#8, 0x38#8, 0x46#8], [0x0F#8, 0x38#8, 0x4E#8], [0x0F#8, 0x38#8, 0x5E#8],
        [0x0F#8, 0x38#8, 0x7E#8], [0x0F#8, 0x38#8, 0x81#8], [0x0F#8, 0x38#8, 0x82#8], [0x0F#8, 0x38#8, 0x83#8],
        [0x0F#8, 0x38#8, 0x86#8], [0x0F#8, 0x38#8, 0x8E#8], [0x0F#8, 0x38#8, 0x9E#8], [0x0F#8, 0x38#8, 0xBE#8],
        [0x0F#8, 0x38#8, 0xC6#8], [0x0F#8, 0x38#8, 0xCA#8], [0x0F#8, 0x38#8, 0xCD#8], [0x0F#8, 0x38#8, 0xCF#8],
        [0x0F#8, 0x38#8, 0xD6#8], [0x0F#8, 0x38#8, 0xD9#8], [0x0F#8, 0x38#8, 0xDA#8], [0x0F#8, 0x38#8, 0xDB#8],
        [0x0F#8, 0x38#8, 0xDE#8], [0x0F#8, 0x38#8, 0xEE#8], [0x0F#8, 0x38#8, 0xF1#8], [0x0F#8, 0x38#8, 0xF3#8]]
      = [some (.b3_0F38_42_43 0x1#1), some (.b3_0F38_44_47 0x2#2), some (.b3_0F38_48_4F 0x6#3),
        some (.b3_0F38_50_5F 0xe#4), some (.b3_0F38_60_7F 0x1e#5), some (.b3_0F38_80_81 0x1#1), some .b3_0F38_82,
        some .b3_0F38_83, some (.b3_0F38_84_87 0x2#2), some (.b3_0F38_88_8F 0x6#3), some (.b3_0F38_90_9F 0xe#4),
        some (.b3_0F38_A0_BF 0x1e#5), some (.b3_0F38_C0_C7 0x6#3), some (.b3_0F38_C8_CB 0x2#2),
        some (.b3_0F38_CC_CD 0x1#1), some (.b3_0F38_CE_CF 0x1#1), some (.b3_0F38_D0_D7 0x6#3),
        some (.b3_0F38_D8_D9 0x1#1), some .b3_0F38_DA, some .b3_0F38_DB, some (.b3_0F38_DC_DF 0x2#2),
        some (.b3_0F38_E0_EF 0xe#4), some (.b3_0F38_F0_F1 0x1#1), some (.b3_0F38_F2_F3 0x1#1)] := by
  decide

/-- Opcode table, 0F 38 map, part 3: the word of each row with its free bits set. -/
theorem test_decode_three38_c :
    readRows .x86
      [[0x0F#8, 0x38#8, 0xF5#8], [0x0F#8, 0x38#8, 0xF6#8], [0x0F#8, 0x38#8, 0xF7#8], [0x0F#8, 0x38#8, 0xFE#8]]
      = [some (.b3_0F38_F4_F5 0x1#1), some .b3_0F38_F6, some .b3_0F38_F7, some (.b3_0F38_F8_FF 0x6#3)] := by
  decide

/-- Opcode table, 0F 3A map, part 1: the word of each row with its free bits set. -/
theorem test_decode_three3a_a :
    readRows .x86
      [[0x0F#8, 0x3A#8, 0x06#8], [0x0F#8, 0x3A#8, 0x0E#8], [0x0F#8, 0x3A#8, 0x12#8], [0x0F#8, 0x3A#8, 0x16#8],
        [0x0F#8, 0x3A#8, 0x1E#8], [0x0F#8, 0x3A#8, 0x21#8], [0x0F#8, 0x3A#8, 0x22#8], [0x0F#8, 0x3A#8, 0x23#8],
        [0x0F#8, 0x3A#8, 0x26#8], [0x0F#8, 0x3A#8, 0x2E#8], [0x0F#8, 0x3A#8, 0x3E#8], [0x0F#8, 0x3A#8, 0x41#8],
        [0x0F#8, 0x3A#8, 0x42#8], [0x0F#8, 0x3A#8, 0x43#8], [0x0F#8, 0x3A#8, 0x44#8], [0x0F#8, 0x3A#8, 0x45#8],
        [0x0F#8, 0x3A#8, 0x47#8], [0x0F#8, 0x3A#8, 0x4E#8], [0x0F#8, 0x3A#8, 0x5E#8], [0x0F#8, 0x3A#8, 0x62#8],
        [0x0F#8, 0x3A#8, 0x66#8], [0x0F#8, 0x3A#8, 0x6E#8], [0x0F#8, 0x3A#8, 0x7E#8], [0x0F#8, 0x3A#8, 0xBE#8]]
      = [some (.b3_0F3A_00_07 0x6#3), some (.b3_0F3A_08_0F 0x6#3), some (.b3_0F3A_10_13 0x2#2),
        some (.b3_0F3A_14_17 0x2#2), some (.b3_0F3A_18_1F 0x6#3), some (.b3_0F3A_20_21 0x1#1), some .b3_0F3A_22,
        some .b3_0F3A_23, some (.b3_0F3A_24_27 0x2#2), some (.b3_0F3A_28_2F 0x6#3), some (.b3_0F3A_30_3F 0xe#4),
        some (.b3_0F3A_40_41 0x1#1), some .b3_0F3A_42, some .b3_0F3A_43, some .b3_0F3A_44, some .b3_0F3A_45,
        some (.b3_0F3A_46_47 0x1#1), some (.b3_0F3A_48_4F 0x6#3), some (.b3_0F3A_50_5F 0xe#4),
        some (.b3_0F3A_60_63 0x2#2), some (.b3_0F3A_64_67 0x2#2), some (.b3_0F3A_68_6F 0x6#3),
        some (.b3_0F3A_70_7F 0xe#4), some (.b3_0F3A_80_BF 0x3e#6)] := by
  decide

/-- Opcode table, 0F 3A map, part 2: the word of each row with its free bits set. -/
theorem test_decode_three3a_b :
    readRows .x86
      [[0x0F#8, 0x3A#8, 0xC6#8], [0x0F#8, 0x3A#8, 0xCA#8], [0x0F#8, 0x3A#8, 0xCC#8], [0x0F#8, 0x3A#8, 0xCD#8],
        [0x0F#8, 0x3A#8, 0xCF#8], [0x0F#8, 0x3A#8, 0xD6#8], [0x0F#8, 0x3A#8, 0xDA#8], [0x0F#8, 0x3A#8, 0xDD#8],
        [0x0F#8, 0x3A#8, 0xDE#8], [0x0F#8, 0x3A#8, 0xDF#8], [0x0F#8, 0x3A#8, 0xFE#8]]
      = [some (.b3_0F3A_C0_C7 0x6#3), some (.b3_0F3A_C8_CB 0x2#2), some .b3_0F3A_CC, some .b3_0F3A_CD,
        some (.b3_0F3A_CE_CF 0x1#1), some (.b3_0F3A_D0_D7 0x6#3), some (.b3_0F3A_D8_DB 0x2#2),
        some (.b3_0F3A_DC_DD 0x1#1), some .b3_0F3A_DE, some .b3_0F3A_DF, some (.b3_0F3A_E0_FF 0x1e#5)] := by
  decide

/-- The host's numbering: a command row by its ordinal, a byte-class row by its opcode bytes. -/
theorem test_table_words :
    decodeTableWord 8 0x1F = some (.b1_1E_1F 0x1#1) ∧ decodeTableWord 16 0x0FA2 = some .b2_0F_A2
      ∧ decodeTableWord 24 0x0F38F0 = some (.b3_0F38_F0_F1 0x0#1) ∧ decodeTableWord 24 0x0F3A0F = some (.b3_0F3A_08_0F 0x7#3)
      ∧ decodeTableWord 8 0x0E = some (.viewReadI32 (View.mk 0 1 false) 0) := by
  decide

/-- The kernel runs a fetched word: CLC after reset is yielded as one byte, 0F 04 ends the sweep, ITER_SKIP is done. -/
theorem test_fetch_word :
    respOf (step (State.reset.withFetchWord 8 0xF8)) = some (.yielded (View.mk 0 1 false) 0x0#64)
      ∧ respOf (step (State.reset.withFetchWord 16 0x0F04)) = some .nothing
      ∧ respOf (step (State.reset.withFetchWord 8 0x05)) = some .done := by
  decide

/-! The engine: the source's scenarios S1 to S9 (spec/95_test_vectors.md, sections 1.1 and 1.2). -/

theorem test_scenarios_x86 :
    [[0x40#8], [0xB8#8, 0x01#8, 0x01#8, 0x01#8, 0x01#8], [0x04#8, 0x2A#8], [0x89#8, 0x5D#8, 0x2A#8], [0x84#8, 0xC0#8],
        [0xDD#8, 0x84#8, 0x00#8, 0x2A#8, 0x2A#8, 0x2A#8, 0x2A#8], [0x67#8, 0xA1#8, 0x2A#8, 0x2A#8], [0xC3#8]].map
      (fun bs => (measure (config .x86) bs).total) = [1, 5, 2, 3, 2, 7, 4, 1] := by
  decide

/-- Section 1.2: the four numbers of the two items and of the failure. -/
theorem test_fixture_breakdowns :
    measure (config .x64) [0x40#8, 0x55#8, 0x48#8, 0x83#8, 0xEC#8, 0x11#8, 0x00#8, 0x80#8]
        = { total := 2, opcodeBytes := 1, argumentBytes := 0, prefixBytes := 1 }
      ∧ measure (config .x64) [0x48#8, 0x83#8, 0xEC#8, 0x11#8, 0x00#8, 0x80#8]
          = { total := 4, opcodeBytes := 1, argumentBytes := 2, prefixBytes := 1 }
      ∧ measure (config .x64) [0x00#8, 0x80#8] = failedBreakdown := by
  decide

/-- R152, R154: the examples of the two-byte and three-byte maps. -/
theorem test_longer_opcodes :
    [[0x66#8, 0x0F#8, 0x38#8, 0x00#8, 0xC1#8], [0x66#8, 0x0F#8, 0x3A#8, 0x0F#8, 0xC1#8, 0x08#8],
        [0x0F#8, 0x38#8, 0x50#8, 0xC0#8], [0x66#8, 0x0F#8, 0x84#8, 0x34#8, 0x12#8], [0x0F#8, 0xBA#8, 0xE0#8, 0x07#8],
        [0x0F#8, 0xA2#8], [0x0F#8, 0xB6#8, 0xC0#8], [0x0F#8, 0x04#8, 0x90#8]].map
      (fun bs => (measure (config .x86) bs).total) = [5, 6, 0, 5, 4, 2, 3, 0] := by
  decide

/-! Single steps. The views are V1 = 48 83 EC 20 (read-only) and V2 = B8 78 56 34 F2 (mutable) of 41_view.md. -/

def v1 : State := bound .x64 [0x48#8, 0x83#8, 0xEC#8, 0x20#8]
def v2 : State := bound .x64 [0xB8#8, 0x78#8, 0x56#8, 0x34#8, 0xF2#8]
def v1View : View := View.mk 0 4 false
def v2View : View := View.mk 0 5 true
def longView : State := bound .x64 [0x48#8, 0xB8#8, 0xFF#8, 0xFF#8, 0xFF#8, 0xFF#8, 0xFF#8, 0xFF#8, 0xFF#8, 0xFF#8]

/-- R280: the example of a RESET after a ViewBounds fault. -/
theorem test_reset_clears_the_latch :
    stateAfter (exec .reset { v1 with fault := true, fcause := .viewBounds, exh := true, mutBit := true })
      = some { v1 with endIdx := 0, va := 0#64, resp := .done } := by
  decide

/-- S7 of section 1.1 as a command. -/
theorem test_decode_commands_answer :
    respOf (exec (.decodeBreakdown 0 4) (bound .x86 [0x67#8, 0xA1#8, 0x2A#8, 0x2A#8]))
        = some (.breakdown { total := 4, opcodeBytes := 1, argumentBytes := 2, prefixBytes := 1 })
      ∧ respOf (exec (.decodeLen 0 4) (bound .x64 [0x67#8, 0xA1#8, 0x2A#8, 0x2A#8])) = some (.length 0) := by
  decide

/-- R223. -/
theorem test_iter_start :
    stateAfter (exec (.iterStart 1 3 0x2000#64 true) { v1 with exh := true })
      = some { v1 with cur := 1, endIdx := 4, va := 0x2000#64, exh := false, mutBit := true, resp := .done } := by
  decide

/-- R225, R231: the X86 example at the top of the address space. -/
theorem test_iter_next_at_the_top :
    stateAfter (exec .iterNext { bound .x86 [0x90#8, 0x90#8] with va := 0xFFFFFFFF#64 })
        = some { bound .x86 [0x90#8, 0x90#8] with
                 va := 0xFFFFFFFF#64, fault := true, fcause := .vaOverflow, resp := .faulted .vaOverflow }
      ∧ respOf (exec .iterNext { bound .x86 [0x90#8, 0x90#8] with va := 0xFFFFFFFE#64 })
          = some (.yielded (View.mk 0 1 false) 0xFFFFFFFE#64) := by
  decide

/-- R226: a failed pull sets EXH and moves nothing. -/
theorem test_iter_next_exhausts :
    stateAfter (exec .iterNext (bound .x64 [0x00#8, 0x80#8]))
      = some { bound .x64 [0x00#8, 0x80#8] with exh := true, resp := .nothing } := by
  decide

/-- R229, R230. -/
theorem test_iter_skip :
    stateAfter (exec (.iterSkip 4) { v1 with exh := true })
        = some { v1 with cur := 4, va := 0x1004#64, exh := true, resp := .done }
      ∧ respOf (exec (.iterSkip 5) v1) = some (.faulted (.skipRange 5 4)) := by
  decide

/-- R184, R185: the examples. -/
theorem test_view_len_and_bytes :
    respOf (exec (.viewLen v1View) v1) = some (.length 4)
      ∧ respOf (exec (.viewBytes v1View) v1) = some (.bytes [0x48#8, 0x83#8, 0xEC#8, 0x20#8]) := by
  decide

/-- R187 to R193: the examples over V1 and V2. -/
theorem test_view_reads :
    respOf (exec (.viewReadU8 v1View 3) v1) = some (.unsigned 0x20)
      ∧ respOf (exec (.viewReadU8 v1View 4) v1) = some (.faulted (.viewBounds 4 1 4))
      ∧ respOf (exec (.viewReadU16 v1View 0) v1) = some (.unsigned 0x8348)
      ∧ respOf (exec (.viewReadI8 v1View 1) v1) = some (.signed (-125))
      ∧ respOf (exec (.viewReadI16 v1View 0) v1) = some (.signed (-31928))
      ∧ respOf (exec (.viewReadU32 v2View 1) v2) = some (.unsigned 0xF2345678)
      ∧ respOf (exec (.viewReadI32 v2View 1) v2) = some (.signed (-231451016)) := by
  decide

/-- R190, R194: the ten-byte view. -/
theorem test_view_reads_of_eight_bytes :
    respOf (exec (.viewReadI64 (View.mk 0 10 false) 2) longView) = some (.signed (-1))
      ∧ respOf (exec (.viewReadU64 (View.mk 0 10 false) 2) longView) = some (.unsigned 0xFFFFFFFFFFFFFFFF)
      ∧ respOf (exec (.viewReadI64 v2View 0) v2) = some (.faulted (.viewBounds 0 8 5)) := by
  decide

/-- R196, R195: the examples of VIEW_WRITE_U8. -/
theorem test_view_write_u8 :
    bytesOf (exec (.viewWriteU8 v2View 0 0xB9#8) v2) 5 = some [0xB9#8, 0x78#8, 0x56#8, 0x34#8, 0xF2#8]
      ∧ respOf (exec (.viewWriteU8 v1View 0 0x90#8) v1) = some (.faulted .viewReadOnly) := by
  decide

/-- R195, R54: little-endian, and nothing but the written bytes. -/
theorem test_view_writes :
    bytesOf (exec (.viewWriteU16 v2View 1 0xBEEF#16) v2) 5 = some [0xB8#8, 0xEF#8, 0xBE#8, 0x34#8, 0xF2#8]
      ∧ bytesOf (exec (.viewWriteI16 v2View 3 0xFFFE#16) v2) 5 = some [0xB8#8, 0x78#8, 0x56#8, 0xFE#8, 0xFF#8]
      ∧ bytesOf (exec (.viewWriteU32 v2View 1 0x00000001#32) v2) 5 = some [0xB8#8, 0x01#8, 0x00#8, 0x00#8, 0x00#8]
      ∧ bytesOf (exec (.viewWriteI32 v2View 1 0xFFFFFFFF#32) v2) 5 = some [0xB8#8, 0xFF#8, 0xFF#8, 0xFF#8, 0xFF#8]
      ∧ bytesOf (exec (.viewWriteI8 v2View 4 0xFE#8) v2) 5 = some [0xB8#8, 0x78#8, 0x56#8, 0x34#8, 0xFE#8]
      ∧ respOf (exec (.viewWriteU64 v2View 0 0x0#64) v2) = some (.faulted (.viewBounds 0 8 5)) := by
  decide

/-- R203, R199: eight bytes at offset 2. -/
theorem test_view_writes_of_eight_bytes :
    bytesOf (exec (.viewWriteI64 (View.mk 0 10 true) 2 0xFFFFFFFFFFFFFFFE#64) longView) 10
        = some [0x48#8, 0xB8#8, 0xFE#8, 0xFF#8, 0xFF#8, 0xFF#8, 0xFF#8, 0xFF#8, 0xFF#8, 0xFF#8]
      ∧ bytesOf (exec (.viewWriteU64 (View.mk 0 10 true) 2 0x0102030405060708#64) longView) 10
          = some [0x48#8, 0xB8#8, 0x08#8, 0x07#8, 0x06#8, 0x05#8, 0x04#8, 0x03#8, 0x02#8, 0x01#8] := by
  decide

/-- R205 to R207: two views of the same bytes, and one that is a proper prefix. -/
theorem test_view_comparisons :
    let s : State := { bound .x64 [0x0F#8, 0xA2#8, 0x0F#8] with
                       views := [View.mk 0 2 false, View.mk 2 1 true, View.mk 0 1 false] }
    respOf (exec (.viewEq (View.mk 2 1 true) (View.mk 0 1 false)) s) = some (.equal true)
      ∧ respOf (exec (.viewEq (View.mk 0 2 false) (View.mk 2 1 true)) s) = some (.equal false)
      ∧ respOf (exec (.viewCmp (View.mk 0 2 false) (View.mk 2 1 true)) s) = some (.order .gt)
      ∧ respOf (exec (.viewCmp (View.mk 2 1 true) (View.mk 0 1 false)) s) = some (.order .eq)
      ∧ respOf (exec (.viewHash (View.mk 2 1 true)) s) = some (.hash (hashFn [0x0F#8])) := by
  refine ⟨by decide, by decide, by decide, by decide, rfl⟩

/-- R250: the numbers of the causes. -/
theorem test_cause_numbers :
    [FCause.none, .viewBounds, .viewReadOnly, .skipRange, .vaOverflow].map causeNumber = [0, 1, 2, 3, 4] := by decide

/-- R264: a latched block refuses a command and a byte-class row alike. -/
theorem test_refused :
    respOf (exec (.viewLen v1View) { v1 with fault := true, fcause := .skipRange }) = some (.refused .skipRange)
      ∧ respOf (exec (.b1_90_97 0x0#3) { v1 with fault := true, fcause := .vaOverflow }) = some (.refused .vaOverflow) := by
  decide

/-- Operands that the interface does not have (R50, R181, R223). -/
theorem test_operands_refused :
    refusalOf (exec (.decodeLen 1 4) v1) = some (.sliceOutsideBuffer 1 4)
      ∧ refusalOf (exec (.viewLen (View.mk 0 3 false)) v1) = some (.unknownView (View.mk 0 3 false))
      ∧ refusalOf (exec (.iterStart 0 1 0x100000000#64 false) (bound .x86 [0x90#8])) = some (.addressTooWide 0x100000000#64) := by
  decide

/-- The rows: 48 83 EC 20 met at its REX byte, E8 with its four bytes, 0F 38 50 as invalid. -/
theorem test_rows :
    respOf (exec (.rex_40_4F 0x8#4) v1) = some (.yielded (View.mk 0 4 false) 0x1000#64)
      ∧ respOf (exec (.b1_B8_BF 0x0#3) v2) = some (.yielded (View.mk 0 5 false) 0x1000#64)
      ∧ respOf (exec (.b3_0F38_50_5F 0x0#4) (bound .x86 [0x0F#8, 0x38#8, 0x50#8, 0xC0#8])) = some .nothing := by
  decide

/-- R291: a host write, then the next command sees it; a message that is no command is refused. -/
theorem test_steps :
    bytesOf (step { v1 with host := [.write 3 0x7F#8] }) 4 = some [0x48#8, 0x83#8, 0xEC#8, 0x7F#8]
      ∧ refusalOf (step { v1 with host := [.write 4 0x7F#8] }) = some (.hostWriteOutside 4)
      ∧ refusalOf (step { v1 with host := [.command [0x40#8]] }) = some (.malformedCommand (.unknownOrdinal 0x40#8)) := by
  decide

/-- An instance that breaks the last constraint of R105 alone: 00 takes no addressing byte, so 00 80 decodes. -/
def addressingFree : Config :=
  { config .x64 with tables := { defaultTables with op1Modrm := defaultOp1Modrm &&& ~~~ byteRange 0 0 } }

/-- R105: such an instance is not accepted, and its first command is refused. -/
theorem test_instance_that_decodes_00_80_is_refused :
    tablesStructural addressingFree.tables = true ∧ tablesEntries .x64 addressingFree.tables = true
      ∧ (measure addressingFree [0x00#8, 0x80#8]).total = 1 ∧ instanceAccepted addressingFree = false
      ∧ refusalOf (step { v1 with cfg := addressingFree, host := [.command [0x04#8]] }) = some .unacceptedInstance := by
  decide

/-! A witness for the hypotheses of every statement that has some: the state and the operands, each clause at a boundary of
its range. -/

theorem witness_PullAfterResetAnswersNone : ∃ t, exec .reset { v1 with fault := true, fcause := .skipRange } = .next t :=
  ⟨_, rfl⟩

theorem witness_DecodeCommandsAnswerTheEngine :
    v1.fault = false ∧ 0 + 4 ≤ v1.mem.size ∧ 4 + 0 ≤ v1.mem.size ∧ measure v1.cfg (v1.mem.slice 0 4) ≠ failedBreakdown := by
  decide

theorem witness_DecodeNeedsNoByteBeyondTheInstruction :
    let b := [0x48#8, 0x83#8, 0xEC#8, 0x20#8, 0x90#8]
    let b' := [0x48#8, 0x83#8, 0xEC#8, 0x20#8]
    tablesStructural (config .x64).tables = true ∧ 0 < (measure (config .x64) b).total
      ∧ (measure (config .x64) b).total ≤ b'.length
      ∧ b'.take (measure (config .x64) b).total = b.take (measure (config .x64) b).total := by
  decide

theorem witness_CutInstructionFails :
    tablesStructural (config .x86).tables = true ∧ 3 < (measure (config .x86) [0x67#8, 0xA1#8, 0x2A#8, 0x2A#8]).total := by
  decide

theorem witness_DecodeReadsOnlyTheBytesItConsumes :
    let b := [0xDD#8, 0x84#8, 0x00#8, 0x2A#8, 0x2A#8, 0x2A#8, 0x2A#8]
    let b' := [0xDD#8, 0x84#8, 0x00#8, 0x01#8, 0x02#8, 0x03#8, 0x04#8]
    tablesStructural (config .x86).tables = true ∧ 0 < (measure (config .x86) b).total ∧ b'.length = b.length
      ∧ b'.take (bytesRead (config .x86) b) = b.take (bytesRead (config .x86) b) ∧ bytesRead (config .x86) b = 3 := by
  decide

theorem witness_PrefixRunOfAnyLengthDecodes : (config .x86).tables = defaultTables := rfl

theorem witness_LegacyPrefixIsOnlyCounted :
    tableHas (config .x64).tables.isLegacyPrefix 0xF3#8 = true ∧ 0xF3#8 ≠ (config .x64).tables.opsize
      ∧ 0xF3#8 ≠ (config .x64).tables.adsize := by
  decide

theorem witness_OperandSizeOverrideActsOnce :
    (config .x64).tables = defaultTables ∧ 4 ≤ (List.replicate 4 0x00#8).length ∧ 2 ≤ (List.replicate 2 0x00#8).length
      ∧ (List.replicate 1 0x00#8).length < 2 := ⟨rfl, by decide, by decide, by decide⟩

theorem witness_AddressSizeOverrideByArchitecture :
    (tablesStructural (config .x86).tables = true ∧ (config .x86).tables = defaultTables ∧ 0xA0#8 ≤ 0xA3#8 ∧ 0xA3#8 ≤ 0xA3#8)
      ∧ (∀ b ∈ [0x67#8, 0x66#8, 0x67#8], isPrefixByte (config .x86) b = true)
      ∧ (isPrefixByte (config .x86) 0xA2#8 = false ∧ 0xA2#8 ≠ 0x0F#8 ∧ tableHas (config .x86).tables.op1Modrm 0xA2#8 = false
        ∧ carriesOnlyMoffs (config .x86).tables 0xA2#8 = true)
      ∧ absoluteWidth .x86 (decide ((config .x86).tables.adsize ∈ [0x67#8, 0x66#8, 0x67#8])) ≤ (List.replicate 2 0x00#8).length
      ∧ (List.replicate 1 0x00#8).length < absoluteWidth .x86 (decide ((config .x86).tables.adsize ∈ [0x67#8, 0x66#8, 0x67#8]))
      ∧ (isPrefixByte (config .x86) 0x8B#8 = false ∧ 0x8B#8 ≠ 0x0F#8 ∧ tableHas (config .x86).tables.op1Modrm 0x8B#8 = true
        ∧ carriesNoImmediate (config .x86).tables 0x8B#8 = true ∧ 4 ≤ (List.replicate 4 0x00#8).length) := by
  decide

theorem witness_RexBytesArePrefixesOnX64Only :
    (config .x86).tables = defaultTables ∧ (config .x86).arch = .x86 ∧ (config .x64).tables = defaultTables
      ∧ (config .x64).arch = .x64 ∧ (∀ r ∈ [0x40#8, 0x4F#8], 0x40#8 ≤ r ∧ r ≤ 0x4F#8) ∧ 0x40#8 ≤ 0x40#8 ∧ 0x40#8 ≤ 0x4F#8 :=
  ⟨rfl, rfl, rfl, rfl, by decide, by decide, by decide⟩

theorem witness_RexwPolicyActsThroughRexOnly :
    (config .x86).arch = .x86 ∧ ∀ x ∈ [0x66#8, 0xB8#8, 0x34#8, 0x12#8], tableHas (config .x64).tables.isRex x = false :=
  ⟨rfl, by decide⟩

theorem witness_RexwWidensWhenLastPrefix :
    let cfg : Config := { config .x64 with rexwPolicy := .widen }
    (cfg.arch = .x64 ∧ tablesStructural cfg.tables = true ∧ (∀ b ∈ [0x66#8, 0x48#8], isPrefixByte cfg b = true)
        ∧ lastRexW cfg [0x66#8, 0x48#8] = true ∧ lastRexW cfg [0x48#8, 0x66#8] = false ∧ (config .x64).rexwPolicy = .ignore)
      ∧ (isPrefixByte cfg 0xF7#8 = false ∧ 0xF7#8 ≠ 0x0F#8 ∧ isPrefixByte cfg 0xB8#8 = false ∧ 0xB8#8 ≠ 0x0F#8
        ∧ 40 ≤ (List.replicate 40 0x00#8).length)
      ∧ (0x84#8 ≠ 0x38#8 ∧ 0x84#8 ≠ 0x3A#8 ∧ tableHas cfg.tables.op2Invalid 0x84#8 = false) := by
  decide

theorem witness_SourceScenariosForEveryTable :
    (config .x86).arch = .x86 ∧ tablesEntries .x86 (config .x86).tables = true ∧ (config .x64).arch = .x64
      ∧ tablesEntries .x64 (config .x64).tables = true := by
  decide

theorem witness_DefaultTablesMeetTheConstraints : (config .x64).tables = defaultTables ∧ (config .x64).arch = .x64 :=
  ⟨rfl, rfl⟩

theorem witness_OneByteOpcodeFailsOnlyByTruncation :
    isPrefixByte (config .x64) 0x06#8 = false ∧ 0x06#8 ≠ 0x0F#8 ∧ 40 ≤ (List.replicate 40 0x00#8).length := by
  decide

theorem witness_InvalidOpcodesFail :
    tablesStructural (config .x86).tables = true ∧ (∀ b ∈ [0x66#8, 0xF2#8], isPrefixByte (config .x86) b = true)
      ∧ (0x04#8 ≠ 0x38#8 ∧ 0x04#8 ≠ 0x3A#8 ∧ tableHas (config .x86).tables.op2Invalid 0x04#8 = true)
      ∧ tableHas (config .x86).tables.op38Invalid 0x50#8 = true ∧ tableHas (config .x86).tables.op3AInvalid 0xFF#8 = true := by
  decide

theorem witness_AddressingByteDecidesTheDisplacement :
    tablesStructural (config .x86).tables = true ∧ isPrefixByte (config .x86) 0x8B#8 = false ∧ 0x8B#8 ≠ 0x0F#8
      ∧ tableHas (config .x86).tables.op1Modrm 0x8B#8 = true ∧ carriesNoImmediate (config .x86).tables 0x8B#8 = true
      ∧ 4 ≤ (List.replicate 4 0x00#8).length := by
  decide

theorem witness_ThreeByteOpcodesTakeAnAddressingByte :
    tablesStructural (config .x86).tables = true ∧ modeField 0xC1#8 = 3
      ∧ tableHas (config .x86).tables.op38Invalid 0x00#8 = false
      ∧ tableHas (config .x86).tables.op3AInvalid 0x0F#8 = false ∧ 1 ≤ [0x08#8].length := by
  decide

theorem witness_IterStartBindsTheSlice :
    let s := bound .x86 [0x90#8, 0x90#8]
    s.fault = false ∧ 0 + 2 ≤ s.mem.size ∧ 2 + 0 ≤ s.mem.size ∧ (0xFFFFFFFF#64).toNat < 2 ^ s.cfg.arch.vaw := by
  decide

theorem witness_PullYieldsFailsOrOverflows :
    (Pullable v1 ∧ 0 < (measure v1.cfg (remainingBytes v1)).total ∧ VaFits (measure v1.cfg (remainingBytes v1)).total v1)
      ∧ (Pullable { v1 with cur := 4 } ∧ (measure v1.cfg (remainingBytes { v1 with cur := 4 })).total = 0)
      ∧ (let s : State := { bound .x86 [0x90#8] with va := 0xFFFFFFFF#64 }
         Pullable s ∧ 0 < (measure s.cfg (remainingBytes s)).total ∧ ¬ VaFits (measure s.cfg (remainingBytes s)).total s)
      ∧ ({ v1 with exh := true } : State).fault = false ∧ ({ v1 with exh := true } : State).cfg.exhLatch = true := by
  decide

theorem witness_SkipMovesThePosition :
    (v1.fault = false ∧ v1.cur ≤ v1.endIdx ∧ v1.endIdx ≤ v1.mem.size)
      ∧ (v1.cur + 4 ≤ v1.endIdx ∧ VaFits 4 v1) ∧ v1.endIdx < v1.cur + 5
      ∧ (let s : State := { bound .x86 [0x90#8] with va := 0xFFFFFFFF#64 }
         s.fault = false ∧ s.cur ≤ s.endIdx ∧ s.endIdx ≤ s.mem.size ∧ s.cur + 1 ≤ s.endIdx ∧ ¬ VaFits 1 s) := by
  decide

theorem witness_PositionAndAddressMoveTogether :
    StateInv v1 ∧ Instr.iterNext ≠ .reset ∧ (∀ base len va0 m, Instr.iterNext ≠ .iterStart base len va0 m)
      ∧ ∃ t, exec .iterNext v1 = .next t ∧ t.cur = 4 :=
  ⟨by decide, by decide, by simp, _, rfl, by decide⟩

theorem witness_PulledItemsTileTheSlice :
    let s := bound .x64 [0x40#8, 0x55#8, 0x48#8, 0x83#8, 0xEC#8, 0x11#8, 0x00#8, 0x80#8]
    StateInv s ∧ Pullable s ∧ (pulled 3 s).length = 2 ∧ s.va.toNat + (s.endIdx - s.cur) ≤ 2 ^ s.cfg.arch.vaw - 1 := by
  decide

theorem witness_FixtureYieldsTwoItems :
    let s := bound .x64 [0x40#8, 0x55#8, 0x48#8, 0x83#8, 0xEC#8, 0x11#8, 0x00#8, 0x80#8]
    s.fault = false ∧ s.cfg.arch = .x64 ∧ tablesScenario s.cfg = true ∧ 8 ≤ s.mem.size
      ∧ s.mem.slice 0 8 = [0x40#8, 0x55#8, 0x48#8, 0x83#8, 0xEC#8, 0x11#8, 0x00#8, 0x80#8]
      ∧ ∃ t, exec (.iterStart 0 8 0x1000#64 false) s = .next t :=
  ⟨by decide, by decide, by decide, by decide, by decide, _, rfl⟩

theorem witness_EveryRowIsMeasuredAndPassed :
    isCommand (.rex_40_4F 0x8#4) = false ∧ isCommand (.b1_90_97 0x0#3) = false
      ∧ (Pullable v1 ∧ encode (.rex_40_4F 0x8#4) <+: remainingBytes v1
          ∧ 0 < (measure v1.cfg (remainingBytes v1)).total ∧ VaFits (measure v1.cfg (remainingBytes v1)).total v1)
      ∧ (let s := bound .x64 [0x48#8]
         Pullable s ∧ encode (.rex_40_4F 0x8#4) <+: remainingBytes s ∧ (measure s.cfg (remainingBytes s)).total = 0)
      ∧ (let s : State := { bound .x86 [0x90#8] with va := 0xFFFFFFFF#64 }
         Pullable s ∧ encode (.b1_90_97 0x0#3) <+: remainingBytes s ∧ 0 < (measure s.cfg (remainingBytes s)).total
          ∧ ¬ VaFits (measure s.cfg (remainingBytes s)).total s) := by
  decide

/-- A text of two opcode-dependent bytes and sixteen more. -/
def textOf (lead : List Byte) : State := bound .x86 (lead ++ [0x84#8, 0x25#8] ++ List.replicate 16 0x11#8)

theorem witness_OneByteRowsYieldTheirLength :
    let s := textOf [0xF6#8]
    rowClass .b1_F6 = .one { modrm := true, pair := .imm8 } ∧ wellFormed s.cfg.arch .b1_F6 = true
      ∧ RunsDefault s ∧ Pullable s ∧ encode .b1_F6 = [0xF6#8]
      ∧ remainingBytes s = 0xF6#8 :: 0x84#8 :: 0x25#8 :: List.replicate 16 0x11#8
      ∧ 16 ≤ (List.replicate 16 0x11#8).length ∧ VaFits 8 s :=
  ⟨rfl, rfl, ⟨rfl, rfl⟩, by decide, rfl, by decide, by decide, by decide⟩

theorem witness_LongerRowsYieldTheirLength :
    (RunsDefault (textOf [0x0F#8, 0xBA#8]) ∧ Pullable (textOf [0x0F#8, 0xBA#8])
        ∧ remainingBytes (textOf [0x0F#8, 0xBA#8]) = encode .b2_0F_BA ++ 0x84#8 :: 0x25#8 :: List.replicate 16 0x11#8
        ∧ rowClass .b2_0F_BA = .two { modrm := true, imm8 := true } ∧ VaFits 9 (textOf [0x0F#8, 0xBA#8]))
      ∧ (RunsDefault (textOf [0x0F#8, 0x3A#8, 0x0F#8]) ∧ Pullable (textOf [0x0F#8, 0x3A#8, 0x0F#8])
        ∧ remainingBytes (textOf [0x0F#8, 0x3A#8, 0x0F#8])
            = encode (.b3_0F3A_08_0F 0x7#3) ++ 0x84#8 :: 0x25#8 :: List.replicate 16 0x11#8
        ∧ rowClass (.b3_0F3A_08_0F 0x7#3) = .three true ∧ VaFits 10 (textOf [0x0F#8, 0x3A#8, 0x0F#8])) :=
  ⟨⟨⟨rfl, rfl⟩, by decide, by decide, rfl, by decide⟩, ⟨⟨rfl, rfl⟩, by decide, by decide, rfl, by decide⟩⟩

theorem witness_InvalidRowsEndTheSweep :
    rowClass .b2_0F_04 = .invalid ∧ RunsDefault (textOf [0x0F#8, 0x04#8]) ∧ Pullable (textOf [0x0F#8, 0x04#8])
      ∧ encode .b2_0F_04 <+: remainingBytes (textOf [0x0F#8, 0x04#8]) :=
  ⟨rfl, ⟨rfl, rfl⟩, by decide, by decide⟩

theorem witness_PrefixAndEscapeRowsGoOn :
    (RunsDefault (bound .x64 [0x48#8, 0x90#8]) ∧ Pullable (bound .x64 [0x48#8, 0x90#8])
        ∧ rowClass (.rex_40_4F 0x8#4) = .rexPrefix ∧ rowClass .b1_F0 = .legacyPrefix
        ∧ remainingBytes (bound .x64 [0x48#8, 0x90#8]) = encode (.rex_40_4F 0x8#4) ++ [0x90#8]
        ∧ remainingBytes (bound .x64 [0xF0#8, 0x90#8]) = encode .b1_F0 ++ [0x90#8] ∧ VaFits 2 (bound .x64 [0x48#8, 0x90#8]))
      ∧ (rowClass .b1_0F = .escapeTwo ∧ remainingBytes (bound .x86 [0x0F#8, 0xA2#8]) = encode .b1_0F ++ [0xA2#8])
      ∧ (rowClass .b2_0F_38 = .escapeThree false
        ∧ remainingBytes (bound .x86 [0x0F#8, 0x38#8, 0x00#8, 0xC1#8]) = encode .b2_0F_38 ++ [0x00#8, 0xC1#8]
        ∧ VaFits 4 (bound .x86 [0x0F#8, 0x38#8, 0x00#8, 0xC1#8]))
      ∧ (rowClass .b2_0F_3A = .escapeThree true
        ∧ remainingBytes (bound .x86 [0x0F#8, 0x3A#8, 0x0F#8, 0xC1#8, 0x08#8])
            = encode .b2_0F_3A ++ [0x0F#8, 0xC1#8, 0x08#8] ∧ VaFits 5 (bound .x86 [0x0F#8, 0x3A#8, 0x0F#8, 0xC1#8, 0x08#8]))
      ∧ remainingBytes (bound .x86 [0x0F#8]) = encode .b1_0F :=
  ⟨⟨⟨rfl, rfl⟩, by decide, rfl, rfl, by decide, by decide, by decide⟩, ⟨rfl, by decide⟩, ⟨rfl, by decide, by decide⟩,
    ⟨rfl, by decide, by decide⟩, by decide⟩

/-- One state for the statements about views: a read-only and a mutable view, both the whole buffer. -/
theorem witness_usable_views : Usable v2View v2 ∧ Usable (View.mk 0 5 false) v2 ∧ v2View.mutBit = true := by decide

/-- A view that ends in the middle of the buffer, so that a write has bytes of the view and of the buffer beside it. -/
def inner : State := { longView with views := [View.mk 1 9 true, View.mk 1 9 false, View.mk 2 8 true] }

theorem witness_TypedReadsAnswerLittleEndian :
    Usable (View.mk 1 9 false) inner ∧ 8 + 1 ≤ 9 ∧ 7 + 2 ≤ 9 ∧ 5 + 4 ≤ 9 ∧ 1 + 8 ≤ 9 := by decide

theorem witness_AccessOutsideTheViewFaults :
    inner.fault = false ∧ View.mk 1 9 true ∈ inner.views ∧ 9 < 6 + 4
      ∧ readWidth (.viewReadI32 (View.mk 1 9 true) 6) = some (View.mk 1 9 true, 6, 4)
      ∧ writeOperands (.viewWriteU32 (View.mk 1 9 true) 6 0x1#32) = some (View.mk 1 9 true, 6, 4, 1)
      ∧ (View.mk 1 9 true).mutBit = true := by
  decide

theorem witness_WriteThroughImmutableViewFaults :
    inner.fault = false ∧ View.mk 1 9 false ∈ inner.views ∧ (View.mk 1 9 false).mutBit = false
      ∧ writeOperands (.viewWriteI8 (View.mk 1 9 false) 9 0xFF#8) = some (View.mk 1 9 false, 9, 1, 255) := by
  decide

theorem witness_TypedWritesStoreTheirBytes :
    Usable (View.mk 1 9 true) inner ∧ (View.mk 1 9 true).mutBit = true ∧ 5 + 4 ≤ 9
      ∧ writeOperands (.viewWriteI32 (View.mk 1 9 true) 5 0xFFFFFFFE#32) = some (View.mk 1 9 true, 5, 4, 0xFFFFFFFE) := by
  decide

theorem witness_WriteThenReadAnswersTheValue :
    Usable (View.mk 1 9 true) inner ∧ (View.mk 1 9 true).mutBit = true
      ∧ (∃ t, exec (.viewWriteU8 (View.mk 1 9 true) 8 0xFF#8) inner = .next t)
      ∧ (∃ t, exec (.viewWriteI8 (View.mk 1 9 true) 8 0xFF#8) inner = .next t)
      ∧ (∃ t, exec (.viewWriteU16 (View.mk 1 9 true) 7 0xFFFF#16) inner = .next t)
      ∧ (∃ t, exec (.viewWriteI16 (View.mk 1 9 true) 7 0xFFFF#16) inner = .next t)
      ∧ (∃ t, exec (.viewWriteU32 (View.mk 1 9 true) 5 0xFFFFFFFF#32) inner = .next t)
      ∧ (∃ t, exec (.viewWriteI32 (View.mk 1 9 true) 5 0xFFFFFFFF#32) inner = .next t)
      ∧ (∃ t, exec (.viewWriteU64 (View.mk 1 9 true) 1 0xFFFFFFFFFFFFFFFF#64) inner = .next t)
      ∧ (∃ t, exec (.viewWriteI64 (View.mk 1 9 true) 1 0xFFFFFFFFFFFFFFFF#64) inner = .next t) :=
  ⟨by decide, rfl, ⟨_, rfl⟩, ⟨_, rfl⟩, ⟨_, rfl⟩, ⟨_, rfl⟩, ⟨_, rfl⟩, ⟨_, rfl⟩, ⟨_, rfl⟩, ⟨_, rfl⟩⟩

theorem witness_ViewHashDependsOnTheBytes :
    (Usable v2View v2 ∧ Usable (View.mk 0 5 false) v2
        ∧ exec (.viewEq v2View (View.mk 0 5 false)) v2 = .next { v2 with resp := .equal true })
      ∧ (Usable (View.mk 1 9 true) inner ∧ Usable (View.mk 1 9 false) { inner with cur := 1, exh := true }
        ∧ ∀ i, i < 9 → inner.mem.byteAt (1 + i) = ({ inner with cur := 1, exh := true } : State).mem.byteAt (1 + i)) :=
  ⟨⟨by decide, by decide, rfl⟩, by decide, by decide, fun _ _ => rfl⟩

theorem witness_WriteThroughYieldedViewKeepsTheRest :
    ∃ t u, StateInv { v2 with mutBit := true } ∧ exec .iterNext { v2 with mutBit := true } = .next t
      ∧ t.resp = .yielded v2View 0x1000#64
      ∧ writeOperands (.viewWriteU32 v2View 1 0x7#32) = some (v2View, 1, 4, 7)
      ∧ exec (.viewWriteU32 v2View 1 0x7#32) t = .next u ∧ u.resp = .done :=
  ⟨_, _, by decide, rfl, by decide, rfl, rfl, by decide⟩

theorem witness_PatchOfUnreadBytesKeepsTheLength :
    ∃ t, tablesStructural v2.cfg.tables = true ∧ Usable v2View v2
      ∧ 0 < (measure v2.cfg (v2.mem.slice v2View.base v2View.len)).total
      ∧ bytesRead v2.cfg (v2.mem.slice v2View.base v2View.len) ≤ 1
      ∧ writeOperands (.viewWriteU32 v2View 1 0x7#32) = some (v2View, 1, 4, 7)
      ∧ exec (.viewWriteU32 v2View 1 0x7#32) v2 = .next t :=
  ⟨_, by decide, by decide, by decide, by decide, rfl, rfl⟩

theorem witness_LatchedBlockRefusesEverything :
    Instr.iterNext ≠ .reset ∧ ({ v1 with fault := true, fcause := .viewBounds } : State).fault = true := by decide

theorem witness_FaultChangesOnlyTheLatch :
    ∃ t, exec (.iterSkip 5) v1 = .next t ∧ t.resp = .faulted (.skipRange 5 4) := ⟨_, rfl, by decide⟩

theorem witness_EveryAnswerIsInTheOutcomeTable :
    ∃ t, v1.fault = false ∧ exec (.viewReadI16 v1View 2) v1 = .next t := ⟨_, by decide, rfl⟩

theorem witness_OnlyTypedWritesChangeTheBuffer :
    (∃ t, exec .iterNext v2 = .next t ∧ writeOperands .iterNext = none)
      ∧ ∃ t, exec (.viewWriteI16 (View.mk 2 8 true) 6 0x1#16) inner = .next t
        ∧ writeOperands (.viewWriteI16 (View.mk 2 8 true) 6 0x1#16) = some (View.mk 2 8 true, 6, 2, 1)
        ∧ (1 < (View.mk 2 8 true).base ∨ (View.mk 2 8 true).base + (View.mk 2 8 true).len ≤ 1) :=
  ⟨⟨_, rfl, rfl⟩, _, rfl, rfl, by decide⟩

theorem witness_OperandsOutsideTheInterfaceAreRefused :
    v1.fault = false ∧ v1.mem.size < 1 + 4
      ∧ (let s := bound .x86 [0x90#8]
         s.fault = false ∧ 0 + 1 ≤ s.mem.size ∧ 2 ^ s.cfg.arch.vaw ≤ (0x100000000#64).toNat)
      ∧ (viewOperands (.viewEq (View.mk 0 3 true) v1View)).head? = some (View.mk 0 3 true)
      ∧ View.mk 0 3 true ∉ v1.views ∧ Usable v1View v1 := by
  decide

theorem witness_StepKeepsTheInvariant :
    ∃ t, StateInv { v1 with host := [.command [0x04#8]] } ∧ step { v1 with host := [.command [0x04#8]] } = .next t ∧ t.cur = 4 :=
  ⟨_, by decide, rfl, by decide⟩

theorem witness_NoStepLeavesTheBuffer : StateInv { inner with host := [.write 9 0x00#8] } := by decide

theorem witness_IssuableInstructionsComplete :
    StateInv v1 ∧ issuable (.iterStart 4 0 0xFFFFFFFFFFFFFFFF#64 true) v1 = true ∧ issuable (.decodeLen 0 4) v1 = true
      ∧ issuable (.viewCmp v1View (View.mk 0 4 true)) v1 = true ∧ issuable .b1_C3 v1 = true := by
  decide

theorem witness_StepRunsTheDecodedCommand :
    ({ v1 with host := [.command [0x05#8, 0x02#8]] } : State).host = [.command [0x05#8, 0x02#8]]
      ∧ instanceAccepted v1.cfg = true ∧ decodeMessage [0x05#8, 0x02#8] = .ok (.iterSkip 2)
      ∧ ({ v1 with host := [.command [0x1B#8]] } : State).host = [.command [0x1B#8]]
      ∧ decodeMessage [0x1B#8] = .error (.unknownOrdinal 0x1B#8) ∧ instanceAccepted addressingFree = false :=
  ⟨rfl, by decide, by decide, rfl, by decide, by decide⟩

theorem witness_HostWritesBetweenCommands :
    ({ v1 with host := [.write 3 0x00#8] } : State).host = [.write 3 0x00#8] ∧ 3 < v1.mem.size ∧ v1.mem.size ≤ 4 ∧ v1.host = [] := by
  decide

theorem witness_CommandMessagesRoundTrip :
    isCommand (.viewWriteU64 (View.mk 300 200 true) 128 0x8000000000000001#64) = true
      ∧ wellFormed .x86 (.viewWriteU64 (View.mk 300 200 true) 128 0x8000000000000001#64) = true
      ∧ isCommand (.iterStart 0 1 0xFFFFFFFF#64 true) = true ∧ wellFormed .x86 (.iterStart 0 1 0xFFFFFFFF#64 true) = true := by
  decide

theorem witness_RowBytesRoundTrip :
    isCommand (.b1_40_5F 0x10#5) = false ∧ wellFormed .x64 (.b1_40_5F 0x10#5) = true
      ∧ rowClass (.b1_40_5F 0x10#5) ≠ .escapeTwo ∧ isCommand .b2_0F_38 = false ∧ wellFormed .x86 .b2_0F_38 = true
      ∧ rowClass .b2_0F_38 = .escapeThree false := by
  decide

theorem witness_EveryTextBeginsWithItsRow : [0x0F#8, 0x38#8] ≠ [] := by decide

end Sys2Proof.Tests
end

section
/-! The statements of 00_scope.md: no step leaves the buffer, a step runs the command its message decodes to, and every
command is read back from its message.

An operation that never ends in the model's fault for an access outside the buffer (assumption log 13): one lemma for each
shared operation, and from them every instruction in a state that meets the invariant. -/

namespace Sys2Proof.Proofs.Scope

open Sys2Proof.Machine Host

/-- The outcome is a next state or a refusal: it is not the model's fault for an access outside the buffer. -/
def StaysInside (o : Outcome State Machine.Fault Refusal) : Prop := ∀ r, o ≠ .fault r

theorem next_staysInside (t : State) : StaysInside (.next t) := fun _ => nofun

theorem refused_staysInside (r : Refusal) : StaysInside (.refused r) := fun _ => nofun

theorem answer_staysInside (r : Response) (s : State) : StaysInside (answer r s) := next_staysInside _

/-- Taking a fault of the block (R262) is a next state, not a stop of the model. -/
theorem takeFault_staysInside (f : FaultInfo) (s : State) : StaysInside (takeFault f s) := next_staysInside _

/-- What a state gives the operations over the buffer: the binding (R28, R43) and every held view (R180) lie inside it. -/
structure BoundsInside (s : State) : Prop where
  binding : s.cur ≤ s.endIdx ∧ s.endIdx ≤ s.mem.size
  view : ∀ v ∈ s.views, v.base + v.len ≤ s.mem.size

theorem boundsInside_of_stateInv {s : State} (h : StateInv s) : BoundsInside s := by
  obtain ⟨hcur, hend, -, -, -, hviews⟩ := h
  exact ⟨⟨hcur, hend⟩, fun v hv => (hviews v hv).2⟩

section
variable {s : State}

theorem unlessLatched_staysInside {run : Outcome State Machine.Fault Refusal} (h : StaysInside run) :
    StaysInside (unlessLatched s run) := by
  cases hf : s.fault with
  | true => rw [unlessLatched_latched hf]; exact next_staysInside _
  | false => rwa [unlessLatched_clear hf]

theorem unlessExhausted_staysInside {run : Outcome State Machine.Fault Refusal} (h : StaysInside run) :
    StaysInside (unlessExhausted s run) := by
  refine unlessLatched_staysInside ?_
  split
  · exact answer_staysInside _ _
  · exact h

theorem withSlice_staysInside {base len : Nat} {run : List Byte → Outcome State Machine.Fault Refusal}
    (h : ∀ bs, StaysInside (run bs)) : StaysInside (withSlice base len s run) := by
  unfold withSlice
  split
  · exact h _
  · exact refused_staysInside _

theorem withAddress_staysInside {va0 : VaWord} {run : Outcome State Machine.Fault Refusal} (h : StaysInside run) :
    StaysInside (withAddress va0 s run) := by
  unfold withAddress
  split
  · exact h
  · exact refused_staysInside _

theorem withRemaining_staysInside (hs : BoundsInside s) {run : List Byte → Outcome State Machine.Fault Refusal}
    (h : ∀ bs, StaysInside (run bs)) : StaysInside (withRemaining s run) := by
  rw [withRemaining_inside hs.binding.1 hs.binding.2]
  exact h _

theorem withView_staysInside {v : View} {run : Outcome State Machine.Fault Refusal}
    (h : v ∈ s.views → StaysInside run) : StaysInside (withView v s run) := by
  by_cases hv : v ∈ s.views
  · rw [withView_held hv]; exact h hv
  · rw [withView_unknown hv]; exact refused_staysInside _

theorem withViewBytes_staysInside (hs : BoundsInside s) {v : View}
    {run : List Byte → Outcome State Machine.Fault Refusal} (h : ∀ bs, StaysInside (run bs)) :
    StaysInside (withViewBytes v s run) := by
  by_cases hv : v ∈ s.views
  · rw [withViewBytes_held hv (hs.view v hv)]; exact h _
  · rw [withViewBytes_unknown hv]; exact refused_staysInside _

/-- The bounds check against the view's length (R183) is the tighter bound that keeps the access inside the buffer. -/
theorem withAccess_staysInside {v : View} (hv : v.base + v.len ≤ s.mem.size) {off w : Nat}
    {run : Nat → Outcome State Machine.Fault Refusal} (h : ∀ addr, StaysInside (run addr)) :
    StaysInside (withAccess v off w s run) := by
  rcases Nat.lt_or_ge v.len (off + w) with hl | hl
  · rw [withAccess_outside hl]; exact next_staysInside _
  · rw [withAccess_inside hl hv]; exact h _

theorem pullText_staysInside (text : List Byte) (s : State) : StaysInside (pullText text s) := by
  rw [pullText_eq]
  split_ifs <;> exact next_staysInside _

theorem sweep_staysInside (hs : BoundsInside s) (lead : List Byte) : StaysInside (sweep lead s) :=
  unlessExhausted_staysInside (withRemaining_staysInside hs fun _ => pullText_staysInside _ s)

theorem typedRead_staysInside (hs : BoundsInside s) (w : Nat) (shape : Nat → Response) (v : View) (off : Nat) :
    StaysInside (typedRead w shape v off s) :=
  unlessLatched_staysInside <| withView_staysInside fun hv =>
    withAccess_staysInside (hs.view v hv) fun _ => answer_staysInside _ _

theorem typedWrite_staysInside (hs : BoundsInside s) (w : Nat) (v : View) (off x : Nat) :
    StaysInside (typedWrite w v off x s) := by
  refine unlessLatched_staysInside (withView_staysInside fun hv => ?_)
  split
  · exact withAccess_staysInside (hs.view v hv) fun _ => answer_staysInside _ _
  · exact takeFault_staysInside _ _

theorem execIterSkip_staysInside (k : Nat) : StaysInside (execIterSkip k s) := by
  refine unlessLatched_staysInside ?_
  split_ifs
  · exact takeFault_staysInside _ _
  · exact takeFault_staysInside _ _
  · exact answer_staysInside _ _

/-- By the class of the instruction: a byte-class row is a sweep, a typed access is the shared one, and each other command
is made of the operations above. -/
theorem exec_staysInside (hs : BoundsInside s) (i : Instr) : StaysInside (exec i s) := by
  cases hc : isCommand i with
  | false => rw [exec_row i s hc]; exact sweep_staysInside hs _
  | true =>
    cases hw : writeOperands i with
    | some p => rw [exec_of_writeOperands hw]; exact typedWrite_staysInside hs _ _ _ _
    | none =>
      cases hr : readWidth i with
      | some p =>
        obtain ⟨shape, -, he⟩ := exec_of_readWidth hr
        rw [he]
        exact typedRead_staysInside hs _ _ _ _
      | none =>
        cases i with
        | reset => exact answer_staysInside _ _
        | decodeBreakdown base len | decodeLen base len =>
          exact unlessLatched_staysInside (withSlice_staysInside fun _ => answer_staysInside _ _)
        | iterStart base len va0 m =>
          exact unlessLatched_staysInside (withSlice_staysInside fun _ =>
            withAddress_staysInside (answer_staysInside _ _))
        | iterNext =>
          exact unlessExhausted_staysInside (withRemaining_staysInside hs fun _ => pullText_staysInside _ s)
        | iterSkip k => exact execIterSkip_staysInside k
        | viewLen v => exact unlessLatched_staysInside (withView_staysInside fun _ => answer_staysInside _ _)
        | viewBytes v | viewHash v =>
          exact unlessLatched_staysInside (withViewBytes_staysInside hs fun _ => answer_staysInside _ _)
        | viewEq a b | viewCmp a b =>
          exact unlessLatched_staysInside (withViewBytes_staysInside hs fun _ =>
            withViewBytes_staysInside hs fun _ => answer_staysInside _ _)
        | viewReadU8 | viewReadU16 | viewReadU32 | viewReadU64 | viewReadI8 | viewReadI16 | viewReadI32
        | viewReadI64 => cases hr
        | viewWriteU8 | viewWriteU16 | viewWriteU32 | viewWriteU64 | viewWriteI8 | viewWriteI16 | viewWriteI32
        | viewWriteI64 => cases hw
        | _ => cases hc

end

/-- Settles O53: only a command can fault a step, and in a state that meets the invariant none does. The invariant does not
look at the host's list, so it holds of the state the command runs in. -/
theorem noStepLeavesTheBuffer : Obligations.NoStepLeavesTheBuffer := by
  intro s r hinv hstep
  obtain ⟨message, rest, i, -, -, hexec⟩ := step_fault hstep
  have hrun : StateInv { s with host := rest } := hinv
  exact exec_staysInside (boundsInside_of_stateInv hrun) _ r hexec

end Sys2Proof.Proofs.Scope
end

section
/-! The message form (assumption log 2): each operand is read back from its encoding with the bytes after it left over, and
from the operands every command. -/

namespace Sys2Proof.Proofs.Scope

open Sys2Proof.Machine

/-- Fuel of at least the number is enough: a group divides the number by 128. No last group is superfluous, since a number
that needs another group has a quotient other than 0. -/
theorem takeNat_natGroups {fuel n : Nat} (h : n ≤ fuel) (rest : List Byte) :
    takeNat (natGroups fuel n ++ rest) = .ok (n, rest) := by
  induction fuel generalizing n with
  | zero =>
    obtain rfl : n = 0 := by omega
    rfl
  | succ fuel ih =>
    rcases Nat.lt_or_ge n 128 with hn | hn
    · have hb : (BitVec.ofNat 8 n).toNat = n := by rw [BitVec.toNat_ofNat]; omega
      simp [natGroups, takeNat, hn, hb]
    · have hb : (BitVec.ofNat 8 (128 + n % 128)).toNat = 128 + n % 128 := by rw [BitVec.toNat_ofNat]; omega
      have hq : n / 128 ≠ 0 := by omega
      have hrec := ih (n := n / 128) (by omega)
      simp only [natGroups, Nat.not_lt.mpr hn, if_false, List.cons_append, takeNat, hb, hrec, hq]
      rw [if_neg (by omega), show 128 + n % 128 - 128 + 128 * (n / 128) = n by omega]

@[simp] theorem takeNat_encodeNat (n : Nat) (rest : List Byte) : takeNat (encodeNat n ++ rest) = .ok (n, rest) :=
  takeNat_natGroups (Nat.le_refl n) rest

@[simp] theorem takeBit_encodeBit (b : Bool) (rest : List Byte) : takeBit (encodeBit b ++ rest) = .ok (b, rest) := by
  cases b <;> rfl

@[simp] theorem takeWord_leBytes {w : Nat} (x : BitVec (8 * w)) (rest : List Byte) :
    takeWord w (leBytes w x.toNat ++ rest) = .ok (x, rest) := by
  have hlen : (leBytes w x.toNat).length = w := leBytes_length w x.toNat
  have hval : BitVec.ofNat (8 * w) (leValue (leBytes w x.toNat)) = x := by
    rw [leValue_leBytes, show 256 ^ w = 2 ^ (8 * w) by rw [Nat.pow_mul], Nat.mod_eq_of_lt x.isLt, BitVec.ofNat_toNat,
      BitVec.setWidth_eq]
  have htake : (leBytes w x.toNat ++ rest).take w = leBytes w x.toNat := List.take_left' hlen
  have hdrop : (leBytes w x.toNat ++ rest).drop w = rest := List.drop_left' hlen
  have hlong : ¬ (leBytes w x.toNat ++ rest).length < w := by rw [List.length_append, hlen]; omega
  rw [takeWord, if_neg hlong, htake, hdrop, hval]

/-- The length of a view travels less one, so only a view of one byte or more (R180) is read back. -/
theorem takeView_encodeView {v : View} (h : viewWellFormed v = true) (rest : List Byte) :
    takeView (encodeView v ++ rest) = .ok (v, rest) := by
  have hlen : v.len - 1 + 1 = v.len := Nat.sub_add_cancel (of_decide_eq_true h)
  simp [takeView, encodeView, hlen]

theorem takeSlice_encode (make : Nat → Nat → Instr) (base len : Nat) (rest : List Byte) :
    takeSlice make (encodeNat base ++ encodeNat len ++ rest) = .ok (make base len, rest) := by
  simp [takeSlice]

theorem decodeOperands_iterSkip (k : Nat) (rest : List Byte) :
    decodeOperands 0x05 (encodeNat k ++ rest) = .ok (.iterSkip k, rest) := by
  simp [decodeOperands]

theorem takeStart_encode (base len : Nat) (va0 : VaWord) (m : Bool) (rest : List Byte) :
    takeStart (encodeNat base ++ encodeNat len ++ leBytes 8 va0.toNat ++ encodeBit m ++ rest)
      = .ok (.iterStart base len va0 m, rest) := by
  have hva (bs : List Byte) : takeWord 8 (leBytes 8 va0.toNat ++ bs) = .ok (va0, bs) := takeWord_leBytes (w := 8) va0 bs
  simp [takeStart, hva]

theorem takeOneView_encode (make : View → Instr) {v : View} (h : viewWellFormed v = true) (rest : List Byte) :
    takeOneView make (encodeView v ++ rest) = .ok (make v, rest) := by
  simp [takeOneView, takeView_encodeView h]

theorem takeTwoViews_encode (make : View → View → Instr) {a b : View}
    (h : (viewWellFormed a && viewWellFormed b) = true) (rest : List Byte) :
    takeTwoViews make (encodeView a ++ encodeView b ++ rest) = .ok (make a b, rest) := by
  obtain ⟨ha, hb⟩ := Bool.and_eq_true_iff.mp h
  simp [takeTwoViews, takeView_encodeView ha, takeView_encodeView hb]

theorem takeRead_encode (make : View → Nat → Instr) {v : View} (h : viewWellFormed v = true) (off : Nat)
    (rest : List Byte) : takeRead make (encodeRead v off ++ rest) = .ok (make v off, rest) := by
  simp [takeRead, encodeRead, takeView_encodeView h]

theorem takeWrite_encode {w : Nat} (make : View → Nat → BitVec (8 * w) → Instr) {v : View}
    (h : viewWellFormed v = true) (off : Nat) (x : BitVec (8 * w)) (rest : List Byte) :
    takeWrite w make (encodeWrite w v off x.toNat ++ rest) = .ok (make v off x, rest) := by
  simp [takeWrite, encodeWrite, takeView_encodeView h]

/-- The first byte of a message is the command's ordinal, which selects the reader of its operands. -/
theorem decodeCommand_encode {arch : Arch} {i : Instr} (hc : isCommand i = true) (hw : wellFormed arch i = true)
    (rest : List Byte) : decodeCommand (encode i ++ rest) = .ok (i, rest) := by
  cases i with
  | reset | iterNext => rfl
  | decodeBreakdown base len | decodeLen base len => exact takeSlice_encode _ base len rest
  | iterStart base len va0 m => exact takeStart_encode base len va0 m rest
  | iterSkip k => exact decodeOperands_iterSkip k rest
  | viewLen v | viewBytes v | viewHash v => exact takeOneView_encode _ hw rest
  | viewEq a b | viewCmp a b => exact takeTwoViews_encode _ hw rest
  | viewReadU8 v off | viewReadU16 v off | viewReadU32 v off | viewReadU64 v off | viewReadI8 v off
  | viewReadI16 v off | viewReadI32 v off | viewReadI64 v off => exact takeRead_encode _ hw off rest
  | viewWriteU8 v off x | viewWriteI8 v off x => exact takeWrite_encode (w := 1) _ hw off x rest
  | viewWriteU16 v off x | viewWriteI16 v off x => exact takeWrite_encode (w := 2) _ hw off x rest
  | viewWriteU32 v off x | viewWriteI32 v off x => exact takeWrite_encode (w := 4) _ hw off x rest
  | viewWriteU64 v off x | viewWriteI64 v off x => exact takeWrite_encode (w := 8) _ hw off x rest
  | _ => cases hc

theorem decodeMessage_of_decodeCommand {bs : List Byte} {i : Instr} (h : decodeCommand bs = .ok (i, [])) :
    decodeMessage bs = .ok i := by
  simp [decodeMessage, h]

theorem decodeMessage_encode {arch : Arch} {i : Instr} (hc : isCommand i = true) (hw : wellFormed arch i = true) :
    decodeMessage (encode i) = .ok i := by
  refine decodeMessage_of_decodeCommand ?_
  simpa using decodeCommand_encode hc hw []

/-- Settles O57, by the round trip of each operand. -/
theorem commandMessagesRoundTrip : Obligations.CommandMessagesRoundTrip :=
  fun _ _ rest hc hw => ⟨decodeCommand_encode hc hw rest, decodeMessage_encode hc hw⟩

end Sys2Proof.Proofs.Scope
end

section
/-! What a step does with a message, and words written out from the tables. -/

namespace Sys2Proof.Proofs.Scope

open Sys2Proof.Machine Host

theorem step_command {s : State} {message : List Byte} {rest : List HostAct} (h : s.host = .command message :: rest) :
    step s = runMessage message { s with host := rest } := by
  simp [step, h]

section
variable {s : State} {message : List Byte}

theorem runMessage_decoded (ha : instanceAccepted s.cfg = true) {i : Instr} (h : decodeMessage message = .ok i) :
    runMessage message s = exec (resolve i s) s := by
  simp [runMessage, ha, h]

theorem runMessage_malformed (ha : instanceAccepted s.cfg = true) {e : DecodeError}
    (h : decodeMessage message = .error e) : runMessage message s = .refused (.malformedCommand e) := by
  simp [runMessage, ha, h]

theorem runMessage_unaccepted (ha : instanceAccepted s.cfg = false) :
    runMessage message s = .refused .unacceptedInstance := by
  simp [runMessage, ha]

end

/-- Settles O55: taking the message from the host's list leaves `cfg`, so whether its tables are accepted is the same before
and after. -/
theorem stepRunsTheDecodedCommand : Obligations.StepRunsTheDecodedCommand := by
  intro s message rest hs
  have hcfg : ({ s with host := rest } : State).cfg = s.cfg := rfl
  rw [step_command hs, ← hcfg]
  exact ⟨fun ha => ⟨fun _ => runMessage_decoded ha, fun _ => runMessage_malformed ha⟩, runMessage_unaccepted⟩

/-- Settles O60: the messages are the encoder's, so the round trip reads them back; the texts are looked up in their
opcode map. -/
theorem writtenOutWordsDecode : Obligations.WrittenOutWordsDecode := by
  have hread (i : Instr) (hc : isCommand i = true) (hw : wellFormed .x64 i = true) : decodeMessage (encode i) = .ok i :=
    decodeMessage_encode hc hw
  exact ⟨hread .reset rfl rfl, hread (.decodeLen 4 13) rfl rfl, hread (.iterStart 0 8 0x1000#64 false) rfl rfl,
    hread (.viewReadI32 { base := 6, len := 5, mutBit := false } 1) rfl rfl,
    hread (.viewWriteU16 { base := 0, len := 5, mutBit := true } 3 0xBEEF#16) rfl rfl,
    rfl, rfl, rfl, rfl, rfl, rfl, rfl⟩

end Sys2Proof.Proofs.Scope
end

section
/-! The statements of 10_state.md: the registers after a reset, how CUR, VA and EXH move, what an instruction leaves of the
buffer and the instance, and the invariant of every state a run reaches. Each is read off the effects of an instruction. -/

namespace Sys2Proof.Proofs.BlockState

open Sys2Proof.Machine Host

/-! Reset. -/

/-- R225, R226: with no byte left between CUR and END the engine measures the empty text, which fails. -/
theorem iterNext_of_no_remaining {s : State} (hf : s.fault = false) (he : s.exh = false) (hempty : s.endIdx = s.cur)
    (hb : s.cur ≤ s.mem.size) : exec .iterNext s = .next (exhaustedState s) := by
  have hfail : pullText [] s = .next (exhaustedState s) := rfl
  have hnone : remainingBytes s = [] := by simp [remainingBytes, Memory.slice, hempty]
  calc exec .iterNext s = withRemaining s fun text => pullText text s := unlessExhausted_runs hf (fun _ => he) _
    _ = pullText (remainingBytes s) s := withRemaining_inside (by omega) (by omega) _
    _ = .next (exhaustedState s) := by rw [hnone, hfail]

/-- Settles O2: a reset binds the empty slice at index 0 with no fault latched. -/
theorem pullAfterResetAnswersNone : Obligations.PullAfterResetAnswersNone := by
  refine ⟨rfl, fun s t hreset => ?_⟩
  cases hreset
  exact iterNext_of_no_remaining rfl rfl rfl (Nat.zero_le _)

/-- Settles O51: every register is 0, the buffer's list is empty, and no view is held. -/
theorem resetStateMeetsTheInvariant : Obligations.ResetStateMeetsTheInvariant :=
  ⟨Nat.le_refl 0, Nat.zero_le _, Nat.two_pow_pos _, ⟨fun _ => rfl, fun _ => rfl⟩, wf_reset, nofun⟩

/-! The position (R29, R43). -/

/-- From `s` to `t` the iterator has passed `n` bytes of the slice it is bound to: CUR and VA have grown by `n` without
wrapping, END stands, and EXH is not cleared. -/
structure AdvancesBy (n : Nat) (s t : State) : Prop where
  endIdx : t.endIdx = s.endIdx
  cur : t.cur = s.cur + n
  va : t.va.toNat = s.va.toNat + n
  exh : s.exh = true → t.exh = true

section
variable {i : Instr} {s t : State}

/-- Only a skip and a pull that yields move the position, and both have checked that the address fits (R231). -/
theorem effect_advances (he : Effect i s t) (hreset : i ≠ .reset)
    (hstart : ∀ base len va0 m, i ≠ .iterStart base len va0 m) : ∃ n, AdvancesBy n s t := by
  cases he with
  | reset hi => exact absurd hi hreset
  | bound base len va0 m _ hi => exact absurd hi (hstart base len va0 m)
  | refused | answered | faulted | written => exact ⟨0, rfl, rfl, rfl, id⟩
  | exhausted => exact ⟨0, rfl, rfl, rfl, fun _ => rfl⟩
  | skipped k _ _ _ hv => exact ⟨k, rfl, rfl, consume_va_toNat hv, id⟩
  | yielded text _ _ _ _ _ _ _ hv =>
    rw [← yieldView_eq]
    exact ⟨_, rfl, rfl, consume_va_toNat hv, id⟩

end

/-- Settles O26: an instruction passes some number of bytes, and CUR and VA grow by that number. -/
theorem positionAndAddressMoveTogether : Obligations.PositionAndAddressMoveTogether := by
  intro i s t _ hreset hstart hexec
  obtain ⟨n, hadv⟩ := effect_advances (exec_effect hexec) hreset hstart
  have hcur := hadv.cur
  have hva := hadv.va
  exact ⟨hadv.endIdx, by omega, by omega, by omega, hadv.exh⟩

/-! The buffer and the instance (R44, R24, R37). -/

section
variable {i : Instr} {s t : State}

theorem effect_keeps_cfg (he : Effect i s t) : t.cfg = s.cfg := by
  cases he <;> rfl

/-- R44, R209: the buffer is as it was, or a typed write has stored its bytes inside its view. -/
theorem effect_mem (he : Effect i s t) :
    t.mem = s.mem
      ∨ ∃ v off w x, writeOperands i = some (v, off, w, x) ∧ off + w ≤ v.len ∧ v.base + off + w ≤ s.mem.size
          ∧ t.mem = s.mem.write (v.base + off) w x := by
  cases he with
  | written v off w x _ hi _ _ hl hb => exact .inr ⟨v, off, w, x, hi, hl, hb, rfl⟩
  | reset | refused | answered | faulted | bound | skipped | exhausted | yielded => exact .inl rfl

theorem effect_keeps_size (he : Effect i s t) : t.mem.size = s.mem.size := by
  rcases effect_mem he with hm | ⟨v, off, w, x, -, -, -, hm⟩
  · rw [hm]
  · rw [hm, write_size]

theorem effect_keeps_mem_of_not_write (he : Effect i s t) (hw : writeOperands i = none) : t.mem = s.mem := by
  rcases effect_mem he with hm | ⟨v, off, w, x, hi, -⟩
  · exact hm
  · rw [hw] at hi; cases hi

theorem effect_keeps_byte_outside_view (he : Effect i s t) {v : View} {off w x : Nat}
    (hw : writeOperands i = some (v, off, w, x)) {a : Nat} (ha : a < v.base ∨ v.base + v.len ≤ a) :
    t.mem.byteAt a = s.mem.byteAt a := by
  rcases effect_mem he with hm | ⟨v', off', w', x', hi, hl, -, hm⟩
  · rw [hm]
  · rw [hw] at hi
    cases hi
    rw [hm, byteAt_write, if_neg (by omega)]

end

/-- Settles O49: by what the effect of the instruction leaves. -/
theorem onlyTypedWritesChangeTheBuffer : Obligations.OnlyTypedWritesChangeTheBuffer := by
  intro i s t hexec
  have he := exec_effect hexec
  exact ⟨effect_keeps_cfg he, effect_keeps_size he, effect_keeps_mem_of_not_write he,
    fun _ _ _ _ hw _ => effect_keeps_byte_outside_view he hw⟩

/-! The invariant. It does not look at EXH, MUT, the response or the host's list; each update of another field keeps it. -/

section
variable {i : Instr} {s t : State}

/-- R175: the bound of a decode that keeps the yielded view inside the slice. -/
theorem measure_total_le (cfg : Config) (text : List Byte) : (measure cfg text).total ≤ text.length := by
  rcases measure_cases cfg text with hm | ⟨_, _, _, _, _, _, _, -, -, hle, hm⟩
  · rw [hm]; exact Nat.zero_le _
  · rw [hm]; exact hle

theorem stateInv_resetRegisters (h : StateInv s) : StateInv (resetRegisters s) := by
  obtain ⟨-, -, -, -, hwf, hviews⟩ := h
  exact ⟨Nat.le_refl 0, Nat.zero_le _, Nat.two_pow_pos _, ⟨fun _ => rfl, fun _ => rfl⟩, hwf, hviews⟩

theorem faultCause_ne_none (f : FaultInfo) : faultCause f ≠ .none := by
  cases f <;> exact nofun

theorem stateInv_faultedState (h : StateInv s) (f : FaultInfo) : StateInv (faultedState (faultCause f) f s) := by
  obtain ⟨hcur, hend, hva, -, hwf, hviews⟩ := h
  have hlatch : (true = false) ↔ faultCause f = .none := ⟨nofun, fun hc => absurd hc (faultCause_ne_none f)⟩
  exact ⟨hcur, hend, hva, hlatch, hwf, hviews⟩

theorem stateInv_bindIterator (h : StateInv s) {base len : Nat} {va0 : VaWord} (m : Bool)
    (hb : base + len ≤ s.mem.size) (hv : va0.toNat < 2 ^ s.cfg.arch.vaw) :
    StateInv (bindIterator base len va0 m s) := by
  obtain ⟨-, -, -, hlatch, hwf, hviews⟩ := h
  exact ⟨Nat.le_add_right base len, hb, hv, hlatch, hwf, hviews⟩

/-- R228: an advance by no more than the remaining bytes, to an address that fits. -/
theorem stateInv_consume (h : StateInv s) {k : Nat} (hk : k ≤ s.endIdx - s.cur) (hv : VaFits k s) :
    StateInv (consume k s) := by
  obtain ⟨hcur, hend, -, hlatch, hwf, hviews⟩ := h
  have hcur' : s.cur + k ≤ s.endIdx := by omega
  have hva : (s.va + BitVec.ofNat 64 k).toNat < 2 ^ s.cfg.arch.vaw := by
    have hpos : 0 < 2 ^ s.cfg.arch.vaw := Nat.two_pow_pos _
    rw [consume_va_toNat hv]
    omega
  exact ⟨hcur', hend, hva, hlatch, hwf, hviews⟩

/-- R227: the view yielded is what the advance passes over, so it ends at or before END. -/
theorem stateInv_yieldedState (h : StateInv s) {n : Nat} (hn : 0 < n) (hle : n ≤ s.endIdx - s.cur) (hv : VaFits n s) :
    StateInv (yieldedState n s) := by
  obtain ⟨hcur, hend, hva, hlatch, hwf, hviews⟩ := stateInv_consume h hle hv
  rw [← yieldView_eq]
  refine ⟨hcur, hend, hva, hlatch, hwf, List.forall_mem_cons.mpr ⟨⟨hn, ?_⟩, hviews⟩⟩
  exact Nat.le_trans hcur hend

/-- A change of the buffer that keeps its length and the canonical form of its list. -/
theorem stateInv_mem (h : StateInv s) {m : Memory} (hsize : m.size = s.mem.size) (hm : s.mem.wf = true → m.wf = true) :
    StateInv { s with mem := m } := by
  obtain ⟨hcur, hend, hva, hlatch, hwf, hviews⟩ := h
  rw [← hsize] at hend hviews
  exact ⟨hcur, hend, hva, hlatch, hm hwf, hviews⟩

theorem effect_keeps_stateInv (he : Effect i s t) (h : StateInv s) : StateInv t := by
  cases he with
  | reset => exact stateInv_resetRegisters (s := s) h
  | refused | answered | exhausted => exact h
  | faulted f => exact stateInv_faultedState h f
  | bound _ _ _ m _ _ hb hv => exact stateInv_bindIterator h m hb hv
  | skipped _ _ _ hk hv => exact stateInv_consume h hk hv
  | yielded text _ _ _ _ hl _ hp hv =>
    exact stateInv_yieldedState h hp (hl ▸ measure_total_le s.cfg text) hv
  | written v off w x _ _ _ _ _ hb =>
    exact stateInv_mem h (write_size ..) fun hwf => wf_write _ _ _ _ hwf hb

end

/-- Settles O52: by what a step can do. An idle step changes nothing, a host write keeps the buffer canonical, and a command
has one of the effects, in the state without the message. -/
theorem stepKeepsTheInvariant : Obligations.StepKeepsTheInvariant := by
  intro s t hinv hstep
  have hrun (rest : List HostAct) : StateInv { s with host := rest } := hinv
  rcases step_next hstep with ⟨-, rfl⟩ | ⟨a, b, rest, -, ha, rfl⟩ | ⟨message, rest, i, -, -, -, hexec⟩
  · exact hinv
  · exact stateInv_mem (hrun rest) (setByte_size ..) fun hwf => wf_setByte _ _ _ hwf ha
  · exact effect_keeps_stateInv (exec_effect hexec) (hrun rest)

end Sys2Proof.Proofs.BlockState
end

section
/-! The statements of 20_memory.md: a decode depends on the bytes it reads and on the length of its slice, and operands that
are not values of the interface are refused by name. -/

namespace Sys2Proof.Proofs.Memory

open Sys2Proof.Machine Host

/-! The bytes a decode reads (R58). -/

/-- Settles O7: a slice that agrees on the bytes read decodes alike if it holds the total, and one of the same length does
(R175). -/
theorem decodeReadsOnlyTheBytesItConsumes : Obligations.DecodeReadsOnlyTheBytesItConsumes := by
  intro cfg b b' htables hpos
  refine ⟨(measure_local htables hpos rfl).1, fun hlen hread => ?_⟩
  have hfits : (measure cfg b).total ≤ b'.length := hlen ▸ BlockState.measure_total_le cfg b
  rw [(measure_local htables hpos hread).2, if_pos hfits]

/-! Operands that are not values of the interface (R50, R223, R181; assumption logs 7 and 8). -/

section
variable {s : State}

theorem withAddress_tooWide {va0 : VaWord} (h : 2 ^ s.cfg.arch.vaw ≤ va0.toNat)
    (run : Outcome State Machine.Fault Refusal) : withAddress va0 s run = .refused (.addressTooWide va0) :=
  if_neg (Nat.not_lt.mpr h)

section
variable (hf : s.fault = false)
include hf

theorem unlessLatched_withSlice_outside {base len : Nat} (h : s.mem.size < base + len)
    (run : List Byte → Outcome State Machine.Fault Refusal) :
    unlessLatched s (withSlice base len s run) = .refused (.sliceOutsideBuffer base len) := by
  rw [unlessLatched_clear hf, withSlice_outside h]

theorem iterStart_tooWide {base len : Nat} {va0 : VaWord} (m : Bool) (hb : base + len ≤ s.mem.size)
    (h : 2 ^ s.cfg.arch.vaw ≤ va0.toNat) :
    exec (.iterStart base len va0 m) s = .refused (.addressTooWide va0) := by
  calc exec (.iterStart base len va0 m) s
      = withSlice base len s fun _ => withAddress va0 s (answer .done (bindIterator base len va0 m s)) :=
        unlessLatched_clear hf _
    _ = withAddress va0 s (answer .done (bindIterator base len va0 m s)) := withSlice_inside hb _
    _ = .refused (.addressTooWide va0) := withAddress_tooWide h _

section
variable {v : View} (hv : v ∉ s.views)
include hv

theorem unlessLatched_withView_unknown (run : Outcome State Machine.Fault Refusal) :
    unlessLatched s (withView v s run) = .refused (.unknownView v) := by
  rw [unlessLatched_clear hf, withView_unknown hv]

/-- A command whose first operand is a view checks that view before its other operands. -/
theorem exec_unknown_firstView {i : Instr} (hi : (viewOperands i).head? = some v) :
    exec i s = .refused (.unknownView v) := by
  cases i with
  | viewLen | viewBytes | viewHash | viewEq | viewCmp
  | viewReadU8 | viewReadU16 | viewReadU32 | viewReadU64 | viewReadI8 | viewReadI16 | viewReadI32 | viewReadI64
  | viewWriteU8 | viewWriteU16 | viewWriteU32 | viewWriteU64 | viewWriteI8 | viewWriteI16 | viewWriteI32
  | viewWriteI64 =>
    cases hi
    exact unlessLatched_withView_unknown hf hv _
  | _ => cases hi

end
end

/-- The second view is checked once the first is usable, whatever is then done with the bytes. -/
theorem unlessLatched_withViewBytes_unknown_second {a v : View} (ha : Usable a s) (hv : v ∉ s.views)
    (run : List Byte → List Byte → Outcome State Machine.Fault Refusal) :
    unlessLatched s (withViewBytes a s fun xs => withViewBytes v s (run xs)) = .refused (.unknownView v) := by
  obtain ⟨hf, hheld, hinside⟩ := ha
  rw [unlessLatched_clear hf, withViewBytes_held hheld hinside, withViewBytes_unknown hv]

end

/-- Settles O50: by the operand each command checks first, and the one it checks next where the first is a value of the
interface. -/
theorem operandsOutsideTheInterfaceAreRefused : Obligations.OperandsOutsideTheInterfaceAreRefused := by
  intro s base len va0 m i v hf
  refine ⟨fun hout => ?slice, fun hin hwide => iterStart_tooWide hf m hin hwide,
    fun hi hv => exec_unknown_firstView hf hv hi, fun a ha hv => ?second⟩
  case slice =>
    exact ⟨unlessLatched_withSlice_outside hf hout _, unlessLatched_withSlice_outside hf hout _,
      unlessLatched_withSlice_outside hf hout _⟩
  case second =>
    exact ⟨unlessLatched_withViewBytes_unknown_second ha hv _, unlessLatched_withViewBytes_unknown_second ha hv _⟩

end Sys2Proof.Proofs.Memory
end

section
/-! The statements of 30_encoding.md about the rows of the opcode table: a row is read back from its bytes, every text
begins with its row's bytes, and the rows' fields are the entries of T_default. All of them go through the place of a row in
its opcode map. -/

namespace Sys2Proof.Proofs.Encoding

open Sys2Proof.Machine

/-- Where the byte-class row `i` with the opcode bytes `lead` stands: it is the REX row of X64, or the row of the last
opcode byte in the opcode map that the bytes before it select (R84, R85, R128). -/
inductive RowAt : Instr → List Byte → Prop
  | one (op : Byte) : RowAt (decodeOne op) [op]
  | rex (sel : BitVec 4) : RowAt (.rex_40_4F sel) [blockByte 0x40#8 sel]
  | two (op : Byte) : RowAt (decodeTwo op) [0x0F#8, op]
  | three38 (op : Byte) : RowAt (decodeThree38 op) [0x0F#8, 0x38#8, op]
  | three3A (op : Byte) : RowAt (decodeThree3A op) [0x0F#8, 0x3A#8, op]

section
variable {i : Instr} {op : Byte}

theorem rowAt_one (he : encode i = [op]) (hd : decodeOne op = i) : RowAt i (encode i) := by
  rw [he, ← hd]; exact .one op

theorem rowAt_two (he : encode i = [0x0F#8, op]) (hd : decodeTwo op = i) : RowAt i (encode i) := by
  rw [he, ← hd]; exact .two op

theorem rowAt_three38 (he : encode i = [0x0F#8, 0x38#8, op]) (hd : decodeThree38 op = i) : RowAt i (encode i) := by
  rw [he, ← hd]; exact .three38 op

theorem rowAt_three3A (he : encode i = [0x0F#8, 0x3A#8, op]) (hd : decodeThree3A op = i) : RowAt i (encode i) := by
  rw [he, ← hd]; exact .three3A op

end

/-- Every byte-class row stands in its map at its own bytes: a row of one byte at that byte, a row of a block at each byte
of the block. -/
theorem rowAt_encode (i : Instr) (hc : isCommand i = false) : RowAt i (encode i) := by
  cases i with
  | b1_04 | b1_05 | b1_0C | b1_0D | b1_0E | b1_0F | b1_14 | b1_15 | b1_1C | b1_1D | b1_24 | b1_25 | b1_26
  | b1_27 | b1_2C | b1_2D | b1_2E | b1_2F | b1_34 | b1_35 | b1_36 | b1_37 | b1_3C | b1_3D | b1_3E | b1_3F
  | b1_68 | b1_69 | b1_6A | b1_6B | b1_80 | b1_81 | b1_9A | b1_9B | b1_A8 | b1_A9 | b1_C2 | b1_C3 | b1_C6
  | b1_C7 | b1_C8 | b1_C9 | b1_CA | b1_CB | b1_CC | b1_CD | b1_EA | b1_EB | b1_F0 | b1_F1 | b1_F6 | b1_F7 =>
    exact rowAt_one rfl rfl
  | b1_00_03 sel | b1_06_07 sel | b1_08_0B sel | b1_10_13 sel | b1_16_17 sel | b1_18_1B sel | b1_1E_1F sel
  | b1_20_23 sel | b1_28_2B sel | b1_30_33 sel | b1_38_3B sel | b1_40_5F sel | b1_60_61 sel | b1_62_63 sel
  | b1_64_67 sel | b1_6C_6F sel | b1_70_7F sel | b1_82_83 sel | b1_84_87 sel | b1_88_8F sel | b1_90_97 sel
  | b1_98_99 sel | b1_9C_9F sel | b1_A0_A3 sel | b1_A4_A7 sel | b1_AA_AB sel | b1_AC_AF sel | b1_B0_B7 sel
  | b1_B8_BF sel | b1_C0_C1 sel | b1_C4_C5 sel | b1_CE_CF sel | b1_D0_D3 sel | b1_D4_D5 sel | b1_D6_D7 sel
  | b1_D8_DF sel | b1_E0_E7 sel | b1_E8_E9 sel | b1_EC_EF sel | b1_F2_F3 sel | b1_F4_F5 sel | b1_F8_FB sel
  | b1_FC_FD sel | b1_FE_FF sel =>
    exact rowAt_one rfl (by revert sel; decide)
  | b2_0F_04 | b2_0F_05 | b2_0F_0A | b2_0F_0B | b2_0F_0C | b2_0F_0D | b2_0F_0E | b2_0F_0F | b2_0F_36 | b2_0F_37
  | b2_0F_38 | b2_0F_39 | b2_0F_3A | b2_0F_3B | b2_0F_76 | b2_0F_77 | b2_0F_A2 | b2_0F_A3 | b2_0F_A4 | b2_0F_A5
  | b2_0F_AA | b2_0F_AB | b2_0F_AC | b2_0F_AD | b2_0F_BA | b2_0F_BB | b2_0F_C2 | b2_0F_C3 | b2_0F_C6 | b2_0F_C7
  | b2_0F_FE | b2_0F_FF =>
    exact rowAt_two rfl rfl
  | b2_0F_00_03 sel | b2_0F_06_07 sel | b2_0F_08_09 sel | b2_0F_10_1F sel | b2_0F_20_23 sel | b2_0F_24_27 sel
  | b2_0F_28_2F sel | b2_0F_30_33 sel | b2_0F_34_35 sel | b2_0F_3C_3F sel | b2_0F_40_5F sel | b2_0F_60_6F sel
  | b2_0F_70_73 sel | b2_0F_74_75 sel | b2_0F_78_79 sel | b2_0F_7A_7B sel | b2_0F_7C_7F sel | b2_0F_80_8F sel
  | b2_0F_90_9F sel | b2_0F_A0_A1 sel | b2_0F_A6_A7 sel | b2_0F_A8_A9 sel | b2_0F_AE_AF sel | b2_0F_B0_B7 sel
  | b2_0F_B8_B9 sel | b2_0F_BC_BF sel | b2_0F_C0_C1 sel | b2_0F_C4_C5 sel | b2_0F_C8_CF sel | b2_0F_D0_DF sel
  | b2_0F_E0_EF sel | b2_0F_F0_F7 sel | b2_0F_F8_FB sel | b2_0F_FC_FD sel =>
    exact rowAt_two rfl (by revert sel; decide)
  | b3_0F38_10 | b3_0F38_11 | b3_0F38_16 | b3_0F38_17 | b3_0F38_1E | b3_0F38_1F | b3_0F38_36 | b3_0F38_37
  | b3_0F38_82 | b3_0F38_83 | b3_0F38_DA | b3_0F38_DB | b3_0F38_F6 | b3_0F38_F7 =>
    exact rowAt_three38 rfl rfl
  | b3_0F38_00_07 sel | b3_0F38_08_0B sel | b3_0F38_0C_0F sel | b3_0F38_12_13 sel | b3_0F38_14_15 sel
  | b3_0F38_18_1B sel | b3_0F38_1C_1D sel | b3_0F38_20_23 sel | b3_0F38_24_25 sel | b3_0F38_26_27 sel
  | b3_0F38_28_2B sel | b3_0F38_2C_2F sel | b3_0F38_30_33 sel | b3_0F38_34_35 sel | b3_0F38_38_3F sel
  | b3_0F38_40_41 sel | b3_0F38_42_43 sel | b3_0F38_44_47 sel | b3_0F38_48_4F sel | b3_0F38_50_5F sel
  | b3_0F38_60_7F sel | b3_0F38_80_81 sel | b3_0F38_84_87 sel | b3_0F38_88_8F sel | b3_0F38_90_9F sel
  | b3_0F38_A0_BF sel | b3_0F38_C0_C7 sel | b3_0F38_C8_CB sel | b3_0F38_CC_CD sel | b3_0F38_CE_CF sel
  | b3_0F38_D0_D7 sel | b3_0F38_D8_D9 sel | b3_0F38_DC_DF sel | b3_0F38_E0_EF sel | b3_0F38_F0_F1 sel
  | b3_0F38_F2_F3 sel | b3_0F38_F4_F5 sel | b3_0F38_F8_FF sel =>
    exact rowAt_three38 rfl (by revert sel; decide)
  | b3_0F3A_22 | b3_0F3A_23 | b3_0F3A_42 | b3_0F3A_43 | b3_0F3A_44 | b3_0F3A_45 | b3_0F3A_CC | b3_0F3A_CD
  | b3_0F3A_DE | b3_0F3A_DF =>
    exact rowAt_three3A rfl rfl
  | b3_0F3A_00_07 sel | b3_0F3A_08_0F sel | b3_0F3A_10_13 sel | b3_0F3A_14_17 sel | b3_0F3A_18_1F sel
  | b3_0F3A_20_21 sel | b3_0F3A_24_27 sel | b3_0F3A_28_2F sel | b3_0F3A_30_3F sel | b3_0F3A_40_41 sel
  | b3_0F3A_46_47 sel | b3_0F3A_48_4F sel | b3_0F3A_50_5F sel | b3_0F3A_60_63 sel | b3_0F3A_64_67 sel
  | b3_0F3A_68_6F sel | b3_0F3A_70_7F sel | b3_0F3A_80_BF sel | b3_0F3A_C0_C7 sel | b3_0F3A_C8_CB sel
  | b3_0F3A_CE_CF sel | b3_0F3A_D0_D7 sel | b3_0F3A_D8_DB sel | b3_0F3A_DC_DD sel | b3_0F3A_E0_FF sel =>
    exact rowAt_three3A rfl (by revert sel; decide)
  | rex_40_4F sel => exact .rex sel
  | _ => cases hc

/-! A row of a map is a byte-class row whose bytes are the escape of the map and the byte it is the row of. -/

theorem encode_decodeOne : ∀ op, encode (decodeOne op) = [op] := by decide

theorem encode_decodeTwo : ∀ op, encode (decodeTwo op) = [0x0F#8, op] := by decide

theorem encode_decodeThree38 : ∀ op, encode (decodeThree38 op) = [0x0F#8, 0x38#8, op] := by decide

theorem encode_decodeThree3A : ∀ op, encode (decodeThree3A op) = [0x0F#8, 0x3A#8, op] := by decide

theorem isCommand_decodeOne : ∀ op, isCommand (decodeOne op) = false := by decide

theorem isCommand_decodeTwo : ∀ op, isCommand (decodeTwo op) = false := by decide

theorem isCommand_decodeThree38 : ∀ op, isCommand (decodeThree38 op) = false := by decide

theorem isCommand_decodeThree3A : ∀ op, isCommand (decodeThree3A op) = false := by decide

section
variable {i : Instr} {lead : List Byte}

theorem encode_of_rowAt (h : RowAt i lead) : encode i = lead := by
  cases h with
  | one op => exact encode_decodeOne op
  | rex sel => rfl
  | two op => exact encode_decodeTwo op
  | three38 op => exact encode_decodeThree38 op
  | three3A op => exact encode_decodeThree3A op

theorem isCommand_of_rowAt (h : RowAt i lead) : isCommand i = false := by
  cases h with
  | one op => exact isCommand_decodeOne op
  | rex sel => rfl
  | two op => exact isCommand_decodeTwo op
  | three38 op => exact isCommand_decodeThree38 op
  | three3A op => exact isCommand_decodeThree3A op

end

/-! Which rows an instance has (R83, R128): the bytes 40 to 4F are the REX row on X64 and one-byte opcodes on X86. -/

/-- The byte is a REX prefix on the architecture (R83). -/
abbrev RexByte (arch : Arch) (op : Byte) : Prop := arch = .x64 ∧ 0x40#8 ≤ op ∧ op ≤ 0x4F#8

theorem rexByte_block :
    ∀ sel : BitVec 4, RexByte .x64 (blockByte 0x40#8 sel) ∧ (blockByte 0x40#8 sel).setWidth 4 = sel := by decide

theorem wellFormed_decodeOne_x64 : ∀ op, wellFormed .x64 (decodeOne op) = true ↔ ¬ RexByte .x64 op := by decide

theorem wellFormed_decodeOne_x86 : ∀ op, wellFormed .x86 (decodeOne op) = true := by decide

theorem wellFormed_decodeOne (arch : Arch) (op : Byte) : wellFormed arch (decodeOne op) = true ↔ ¬ RexByte arch op := by
  cases arch with
  | x86 => simp [wellFormed_decodeOne_x86]
  | x64 => exact wellFormed_decodeOne_x64 op

/-- Only rows of one byte depend on the architecture. -/
theorem wellFormed_of_long {i : Instr} (arch : Arch) (hc : isCommand i = false) (hl : (encode i).length ≠ 1) :
    wellFormed arch i = true := by
  cases i with
  | b1_40_5F sel | rex_40_4F sel => exact absurd rfl hl
  | _ => first | rfl | cases hc

/-! The row of a text (R84, R85). -/

section
variable {arch : Arch} {op : Byte}

theorem decodeText_one (hop : op ≠ 0x0F#8) (hrex : ¬ RexByte arch op) (tail : List Byte) :
    decodeText arch (op :: tail) = .ok (decodeOne op) := by
  simp only [decodeText, if_neg hop, if_neg hrex]

theorem decodeText_rex (hrex : RexByte arch op) (tail : List Byte) :
    decodeText arch (op :: tail) = .ok (.rex_40_4F (op.setWidth 4)) := by
  have hop : op ≠ 0x0F#8 := by rintro rfl; exact absurd hrex.2.1 (by decide)
  simp only [decodeText, if_neg hop, if_pos hrex]

theorem decodeText_two (h38 : op ≠ 0x38#8) (h3A : op ≠ 0x3A#8) (tail : List Byte) :
    decodeText arch (0x0F#8 :: op :: tail) = .ok (decodeTwo op) := by
  simp only [decodeText, if_true, if_neg h38, if_neg h3A]

end

/-- A row is read back at its place, unless it is an escape and more bytes follow, which belong to a longer row. -/
theorem decodeText_of_rowAt {arch : Arch} {i : Instr} {lead tail : List Byte} (h : RowAt i lead)
    (hw : wellFormed arch i = true)
    (hesc : rowClass i = .escapeTwo ∨ rowClass i = .escapeThree false ∨ rowClass i = .escapeThree true → tail = []) :
    decodeText arch (lead ++ tail) = .ok i := by
  cases h with
  | one op =>
    by_cases hop : op = 0x0F#8
    · obtain rfl := hop
      obtain rfl := hesc (.inl rfl)
      rfl
    · exact decodeText_one hop ((wellFormed_decodeOne arch op).mp hw) tail
  | rex sel =>
    obtain rfl : arch = .x64 := by
      cases arch with
      | x86 => cases hw
      | x64 => rfl
    obtain ⟨hrex, hsel⟩ := rexByte_block sel
    exact (decodeText_rex hrex tail).trans (by rw [hsel])
  | two op =>
    by_cases h38 : op = 0x38#8
    · obtain rfl := h38
      obtain rfl := hesc (.inr (.inl rfl))
      rfl
    by_cases h3A : op = 0x3A#8
    · obtain rfl := h3A
      obtain rfl := hesc (.inr (.inr rfl))
      rfl
    · exact decodeText_two h38 h3A tail
  | three38 op => rfl
  | three3A op => rfl

/-- Settles O58: a row is read back at the place in its map where it stands. -/
theorem rowBytesRoundTrip : Obligations.RowBytesRoundTrip :=
  fun _ i _ hc hw hesc => decodeText_of_rowAt (rowAt_encode i hc) hw hesc

/-- What a text has to have of the row it decodes to: the row stands at the first bytes of the text, in an instance of the
architecture. -/
structure BeginsWith (arch : Arch) (bs : List Byte) (i : Instr) : Prop where
  decoded : decodeText arch bs = .ok i
  row : isCommand i = false
  wf : wellFormed arch i = true
  bytes : encode i <+: bs

section
variable {arch : Arch} {i : Instr} {lead tail : List Byte}

theorem beginsWith_of_rowAt (h : RowAt i lead) (hd : decodeText arch (lead ++ tail) = .ok i)
    (hw : wellFormed arch i = true) : BeginsWith arch (lead ++ tail) i where
  decoded := hd
  row := isCommand_of_rowAt h
  wf := hw
  bytes := encode_of_rowAt h ▸ List.prefix_append lead tail

theorem beginsWith_of_long (h : RowAt i lead) (hl : lead.length ≠ 1) (hd : decodeText arch (lead ++ tail) = .ok i) :
    BeginsWith arch (lead ++ tail) i :=
  beginsWith_of_rowAt h hd
    (wellFormed_of_long arch (isCommand_of_rowAt h) (by rwa [encode_of_rowAt h]))

end

/-- A text of the longer maps (R84): the row of the last escape's map, or the escape itself where the text ends. -/
theorem escape_beginsWith (arch : Arch) (rest : List Byte) : ∃ i, BeginsWith arch (0x0F#8 :: rest) i := by
  match rest with
  | [] => exact ⟨_, beginsWith_of_rowAt (tail := []) (.one 0x0F#8) rfl rfl⟩
  | op :: rest =>
    by_cases h38 : op = 0x38#8
    · obtain rfl := h38
      match rest with
      | [] => exact ⟨_, beginsWith_of_long (tail := []) (.two 0x38#8) (by decide) rfl⟩
      | op3 :: tail => exact ⟨_, beginsWith_of_long (.three38 op3) (by decide : 3 ≠ 1) rfl⟩
    by_cases h3A : op = 0x3A#8
    · obtain rfl := h3A
      match rest with
      | [] => exact ⟨_, beginsWith_of_long (tail := []) (.two 0x3A#8) (by decide) rfl⟩
      | op3 :: tail => exact ⟨_, beginsWith_of_long (.three3A op3) (by decide : 3 ≠ 1) rfl⟩
    · exact ⟨_, beginsWith_of_long (.two op) (by decide : 2 ≠ 1) (decodeText_two h38 h3A rest)⟩

theorem rexByte_eq_block : ∀ op, RexByte .x64 op → blockByte 0x40#8 (op.setWidth 4) = op := by decide

theorem text_beginsWith (arch : Arch) (op : Byte) (rest : List Byte) : ∃ i, BeginsWith arch (op :: rest) i := by
  by_cases hop : op = 0x0F#8
  · exact hop ▸ escape_beginsWith arch rest
  by_cases hrex : RexByte arch op
  · have hd := decodeText_rex hrex rest
    obtain rfl := hrex.1
    have hrow : RowAt (.rex_40_4F (op.setWidth 4)) [op] := by
      simpa only [rexByte_eq_block op hrex] using RowAt.rex (op.setWidth 4)
    exact ⟨_, beginsWith_of_rowAt hrow hd rfl⟩
  · have hw := (wellFormed_decodeOne arch op).mpr hrex
    exact ⟨_, beginsWith_of_rowAt (.one op) (decodeText_one hop hrex rest) hw⟩

/-- Settles O59: by the first byte of the text, an escape, a REX byte or another. -/
theorem everyTextBeginsWithItsRow : Obligations.EveryTextBeginsWithItsRow := by
  intro arch bs hbs
  obtain ⟨op, rest, rfl⟩ := List.exists_cons_of_ne_nil hbs
  obtain ⟨i, hdecoded, hrow, hwf, hbytes⟩ := text_beginsWith arch op rest
  exact ⟨i, hdecoded, hrow, hwf, hbytes⟩

/-! The fields of the rows are the entries of T_default (R114 to R122), byte by byte of each map. -/

theorem rowAgrees_decodeOne : ∀ op, rowAgrees defaultTables (rowClass (decodeOne op)) [op] = true := by decide

theorem rowAgrees_rex :
    ∀ sel : BitVec 4, rowAgrees defaultTables (rowClass (.rex_40_4F sel)) [blockByte 0x40#8 sel] = true := by decide

theorem rowAgrees_decodeTwo : ∀ op, rowAgrees defaultTables (rowClass (decodeTwo op)) [0x0F#8, op] = true := by decide

theorem rowAgrees_decodeThree38 :
    ∀ op, rowAgrees defaultTables (rowClass (decodeThree38 op)) [0x0F#8, 0x38#8, op] = true := by decide

theorem rowAgrees_decodeThree3A :
    ∀ op, rowAgrees defaultTables (rowClass (decodeThree3A op)) [0x0F#8, 0x3A#8, op] = true := by decide

/-- Settles O22: a row stands in its map at its own bytes, and a command is in no map. -/
theorem rowsAgreeWithTheDefaultTables : Obligations.RowsAgreeWithTheDefaultTables := by
  intro i
  cases hc : isCommand i with
  | true => rw [rowClass_command.mpr hc]; rfl
  | false =>
    generalize encode i = lead, rowAt_encode i hc = hrow
    cases hrow with
    | one op => exact rowAgrees_decodeOne op
    | rex sel => exact rowAgrees_rex sel
    | two op => exact rowAgrees_decodeTwo op
    | three38 op => exact rowAgrees_decodeThree38 op
    | three3A op => exact rowAgrees_decodeThree3A op

end Sys2Proof.Proofs.Encoding
end

section
/-! The statements of 30_encoding.md about the engine: what an opcode and its addressing byte ask for, which opcodes fail,
and the lengths that the rows' fields and the source's scenarios give. -/

namespace Sys2Proof.Proofs.Encoding

open Sys2Proof.Machine Host

/-! What the opcode dispatch finds (R149 to R163), in the terms of the statements. -/

/-- The argument bytes that an opcode asks for (R90, R164): the addressing byte `m` with what it and the extension byte `x`
ask for, and the immediate bytes. -/
def argumentBytes (l : Widths) (info : OpcodeInfo) (m x : Byte) : Nat :=
  (if info.modrm then 1 + addressingTail l.adisp m x else 0) + info.imm

section
variable {cfg : Config} {l : Widths} {op m x : Byte} {rest : List Byte}

theorem widthIf_eq (b : Bool) (w : Nat) : widthIf b w = if b then w else 0 := rfl

/-- R162. -/
theorem pairImmediate_cons (cfg : Config) (l : Widths) (op m : Byte) (rest : List Byte) :
    pairImmediate cfg l op (m :: rest)
      = some (if cfg.g3ImmRegs.getLsbD (regField m) then
          if tableHas cfg.tables.op1G3Imm8 op then 1
          else if tableHas cfg.tables.op1G3ImmDef op then defaultWidth cfg l else 0
        else 0) := by
  unfold pairImmediate widthIf
  cases tableHas cfg.tables.op1G3Imm8 op <;> cases tableHas cfg.tables.op1G3ImmDef op <;> simp

theorem dispatchOpcode_one (hop : op ≠ 0x0F#8) :
    dispatchOpcode cfg l op (m :: rest)
      = some { count := 1, modrm := tableHas cfg.tables.op1Modrm op
               imm := tableImmediate cfg (defaultWidth cfg l) (fullWidth cfg l) l.amoffs op m, rest := m :: rest } := by
  unfold dispatchOpcode classifyOne
  simp only [if_neg hop, pairImmediate_cons]
  rfl

theorem dispatchOpcode_two (h38 : op ≠ 0x38#8) (h3A : op ≠ 0x3A#8) (hv : tableHas cfg.tables.op2Invalid op = false) :
    dispatchOpcode cfg l 0x0F#8 (op :: rest)
      = some { count := 2, modrm := tableHas cfg.tables.op2Modrm op
               imm := tableImmediateTwo cfg (defaultWidth cfg l) op, rest := rest } := by
  simp only [dispatchOpcode, if_true, if_neg h38, if_neg h3A, classifyTwo, hv, Bool.false_eq_true, if_false]
  rfl

/-- The table of a three-byte map, by whether the map adds an immediate byte (R104, R152). -/
def threeInvalid (t : Tables) (imm8 : Bool) : ByteSet := if imm8 then t.op3AInvalid else t.op38Invalid

/-- The second opcode byte of a three-byte map (R84). -/
def threeEscape (imm8 : Bool) : Byte := if imm8 then 0x3A#8 else 0x38#8

theorem dispatchOpcode_three (imm8 : Bool) (hv : tableHas (threeInvalid cfg.tables imm8) op = false) :
    dispatchOpcode cfg l 0x0F#8 (threeEscape imm8 :: op :: rest)
      = some { count := 3, modrm := true, imm := if imm8 then 1 else 0, rest := rest } := by
  cases imm8 <;> exact if_neg (Bool.eq_false_iff.mp hv)

/-! Invalid opcodes (R110, R111, R153). -/

theorem dispatchOpcode_two_invalid (h38 : op ≠ 0x38#8) (h3A : op ≠ 0x3A#8)
    (hv : tableHas cfg.tables.op2Invalid op = true) : dispatchOpcode cfg l 0x0F#8 (op :: rest) = none := by
  simp only [dispatchOpcode, if_true, if_neg h38, if_neg h3A, classifyTwo, hv]

theorem dispatchOpcode_three_invalid (imm8 : Bool) (hv : tableHas (threeInvalid cfg.tables imm8) op = true) :
    dispatchOpcode cfg l 0x0F#8 (threeEscape imm8 :: op :: rest) = none := by
  cases imm8 <;> exact if_pos hv

/-! The measure of an instruction from what the dispatch finds. -/

section
variable {pre : List Byte} (hpre : ∀ b ∈ pre, isPrefixByte cfg b = true) (hop : isPrefixByte cfg op = false)
include hpre hop

theorem measure_of_dispatch_none
    (hd : dispatchOpcode cfg (pre.foldl (consumePrefix cfg) (startWidths cfg.arch)) op rest = none) :
    measure cfg (pre ++ op :: rest) = failedBreakdown := by
  rw [measure_run cfg pre op rest hpre hop, afterPrefixes, hd]

variable (hl : pre.foldl (consumePrefix cfg) (startWidths cfg.arch) = l) {info : OpcodeInfo}
variable (hd : dispatchOpcode cfg l op rest = some info)
include hl hd

theorem measure_of_dispatch {c d : Nat} (haddr : addressing l info.modrm info.rest = some (c, d)) :
    measure cfg (pre ++ op :: rest)
      = if info.count + (c + (d + info.imm)) ≤ 1 + rest.length then
          { total := pre.length + info.count + (c + (d + info.imm)), opcodeBytes := info.count
            argumentBytes := c + (d + info.imm), prefixBytes := pre.length }
        else failedBreakdown := by
  have hcount : l.count = pre.length := by rw [← hl, foldl_consumePrefix_count, startWidths_count, Nat.zero_add]
  rw [measure_run cfg pre op rest hpre hop, hl, afterPrefixes, hd]
  simp only [haddr, hcount]
  exact if_congr (by omega) rfl rfl

theorem measure_total_of_dispatch {tail : List Byte} (hrest : info.rest = m :: x :: tail)
    (hfit : info.count + argumentBytes l info m x ≤ 1 + rest.length) :
    (measure cfg (pre ++ op :: rest)).total = pre.length + info.count + argumentBytes l info m x := by
  obtain ⟨c, d, haddr, hsum⟩ : ∃ c d, addressing l info.modrm info.rest = some (c, d)
      ∧ c + d = if info.modrm then 1 + addressingTail l.adisp m x else 0 := by
    rw [hrest]
    cases info.modrm with
    | true => exact addressing_eq l m x tail
    | false => exact ⟨0, 0, rfl, rfl⟩
  have hargs : c + (d + info.imm) = argumentBytes l info m x := by rw [argumentBytes, ← hsum, Nat.add_assoc]
  rw [measure_of_dispatch hpre hop hl hd haddr, hargs, if_pos hfit]

end
end

/-- Settles O19: an escape is no prefix (R106), so the dispatch meets it and fails. -/
theorem invalidOpcodesFail : Obligations.InvalidOpcodesFail := by
  intro cfg pre tail op ht hpre
  have hfail {rest : List Byte} := measure_of_dispatch_none (rest := rest) hpre (escape_not_prefix ht)
  exact ⟨fun h38 h3A hv => hfail (dispatchOpcode_two_invalid h38 h3A hv),
    fun hv => hfail (dispatchOpcode_three_invalid false hv), fun hv => hfail (dispatchOpcode_three_invalid true hv)⟩

/-! Without a prefix (R141): the widths at the start of a decode. -/

section
variable (cfg : Config)

@[simp] theorem startWidths_adisp (arch : Arch) : (startWidths arch).adisp = 4 := rfl

@[simp] theorem startWidths_amoffs (arch : Arch) : (startWidths arch).amoffs = absoluteWidth arch false := by
  cases arch <;> rfl

@[simp] theorem defaultWidth_start : defaultWidth cfg (startWidths cfg.arch) = 4 := rfl

@[simp] theorem fullWidth_start : fullWidth cfg (startWidths cfg.arch) = 4 := rfl

end

/-- R89: the extension byte and the displacement. -/
theorem addressingTail_le {adisp : Nat} (h : adisp ≤ 4) (m x : Byte) : addressingTail adisp m x ≤ 5 := by
  unfold addressingTail
  split_ifs <;> omega

theorem absoluteWidth_le (arch : Arch) (override : Bool) : absoluteWidth arch override ≤ 8 := by
  cases arch <;> cases override <;> decide

/-- R163: every class at once. -/
theorem tableImmediate_le (cfg : Config) {w f a : Nat} (hw : w ≤ 4) (hf : f ≤ 4) (ha : a ≤ 8) (op m : Byte) :
    tableImmediate cfg w f a op m ≤ 23 := by
  calc tableImmediate cfg w f a op m ≤ 1 + 4 + 4 + 2 + 8 + 4 := by
        unfold tableImmediate
        gcongr <;> split_ifs <;> omega
    _ = 23 := rfl

/-- R157 to R163: no class, no immediate byte. -/
theorem tableImmediate_of_none {cfg : Config} {op : Byte} (h : carriesNoImmediate cfg.tables op = true) (w f a : Nat)
    (m : Byte) : tableImmediate cfg w f a op m = 0 := by
  simp only [carriesNoImmediate, Bool.and_eq_true, Bool.not_eq_true'] at h
  simp [tableImmediate, h]

section
variable {cfg : Config} {pre : List Byte} {l : Widths} {op m x : Byte} {tail : List Byte}
variable (hpre : ∀ b ∈ pre, isPrefixByte cfg b = true)
variable (hl : pre.foldl (consumePrefix cfg) (startWidths cfg.arch) = l)
include hpre hl

/-- A one-byte opcode after a run of prefixes. -/
theorem measure_total_one (hp : isPrefixByte cfg op = false) (hop : op ≠ 0x0F#8) {n : Nat}
    (hn : (if tableHas cfg.tables.op1Modrm op then 1 + addressingTail l.adisp m x else 0)
      + tableImmediate cfg (defaultWidth cfg l) (fullWidth cfg l) l.amoffs op m = n)
    (hfit : n ≤ 2 + tail.length) : (measure cfg (pre ++ op :: m :: x :: tail)).total = pre.length + 1 + n := by
  subst hn
  refine measure_total_of_dispatch hpre hp hl (dispatchOpcode_one hop) rfl ?_
  simp only [argumentBytes, List.length_cons]
  omega

/-- A two-byte opcode after a run of prefixes. -/
theorem measure_total_two (ht : tablesStructural cfg.tables = true) (h38 : op ≠ 0x38#8) (h3A : op ≠ 0x3A#8)
    (hv : tableHas cfg.tables.op2Invalid op = false) {n : Nat}
    (hn : (if tableHas cfg.tables.op2Modrm op then 1 + addressingTail l.adisp m x else 0)
      + tableImmediateTwo cfg (defaultWidth cfg l) op = n)
    (hfit : n ≤ 2 + tail.length) :
    (measure cfg (pre ++ 0x0F#8 :: op :: m :: x :: tail)).total = pre.length + 2 + n := by
  subst hn
  refine measure_total_of_dispatch hpre (escape_not_prefix ht) hl (dispatchOpcode_two h38 h3A hv) rfl ?_
  simp only [argumentBytes, List.length_cons]
  omega

/-- A three-byte opcode after a run of prefixes. -/
theorem measure_total_three (ht : tablesStructural cfg.tables = true) (imm8 : Bool)
    (hv : tableHas (threeInvalid cfg.tables imm8) op = false) {n : Nat}
    (hn : 1 + addressingTail l.adisp m x + (if imm8 then 1 else 0) = n) (hfit : n ≤ 2 + tail.length) :
    (measure cfg (pre ++ 0x0F#8 :: threeEscape imm8 :: op :: m :: x :: tail)).total = pre.length + 3 + n := by
  subst hn
  refine measure_total_of_dispatch hpre (escape_not_prefix ht) hl (dispatchOpcode_three imm8 hv) rfl ?_
  simp only [argumentBytes, List.length_cons, if_true]
  omega

end

/-- Settles O18: the operands of a one-byte opcode are 29 bytes at most, whatever classes the tables put it in. -/
theorem oneByteOpcodeFailsOnlyByTruncation : Obligations.OneByteOpcodeFailsOnlyByTruncation := by
  intro cfg op tail hp hop hlen
  match tail with
  | m :: x :: tail =>
    have haddr := addressingTail_le (Nat.le_refl 4) m x
    have himm := tableImmediate_le cfg (Nat.le_refl 4) (Nat.le_refl 4) (absoluteWidth_le cfg.arch false) op m
    have htotal := measure_total_one (pre := []) (m := m) (x := x) (tail := tail) nofun rfl hp hop rfl (by
      simp only [List.foldl_nil, startWidths_adisp, startWidths_amoffs, defaultWidth_start, fullWidth_start]
      simp only [List.length_cons] at hlen
      split <;> omega)
    rw [List.nil_append] at htotal
    omega

/-- Settles O20: with no immediate class, the argument bytes are the addressing form's. An address-size override before the
opcode is a run of one prefix (R144). -/
theorem addressingByteDecidesTheDisplacement : Obligations.AddressingByteDecidesTheDisplacement := by
  intro cfg op m x tail ht hp hop hmodrm hnone hlen
  have hmeasure {pre : List Byte} (hpre : ∀ b ∈ pre, isPrefixByte cfg b = true) {l : Widths}
      (hl : pre.foldl (consumePrefix cfg) (startWidths cfg.arch) = l) (hadisp : l.adisp ≤ 4) :
      (measure cfg (pre ++ op :: m :: x :: tail)).total = pre.length + 1 + (1 + addressingTail l.adisp m x) := by
    have haddr := addressingTail_le hadisp m x
    exact measure_total_one hpre hl hp hop (by rw [if_pos hmodrm, tableImmediate_of_none hnone, Nat.add_zero]) (by omega)
  constructor
  case left =>
    have h := hmeasure (pre := []) (l := startWidths cfg.arch) nofun rfl (Nat.le_refl 4)
    rw [List.nil_append, List.length_nil, startWidths_adisp] at h
    omega
  case right =>
    obtain ⟨-, hadsize, -⟩ := prefixes_disjoint ht
    have hpre : ∀ b ∈ [cfg.tables.adsize], isPrefixByte cfg b = true := by simp [isPrefixByte, hadsize]
    have hwidth : displacementWidth cfg.arch (decide (cfg.tables.adsize ∈ [cfg.tables.adsize]))
        = if cfg.arch = .x86 then 2 else 4 := by simp [displacementWidth]
    have h := hmeasure hpre (widths_after_prefixes ht _ hpre) (by simp only [hwidth]; split <;> decide)
    simp only [hwidth, List.cons_append, List.nil_append, List.length_singleton] at h
    omega

/-! Opcodes whose operands the entries of R105 fix. -/

/-- A one-byte opcode that no entry puts into the group pair, with whether an addressing byte follows and how many bytes of
immediate, where `l` are the widths: the bytes after it are counted and not looked at. -/
structure PlainOpcode (cfg : Config) (l : Widths) (op : Byte) (modrm : Bool) (imm : Nat) : Prop where
  notPrefix : isPrefixByte cfg op = false
  dispatch : ∀ rest, dispatchOpcode cfg l op rest = some { count := 1, modrm := modrm, imm := imm, rest := rest }

theorem isPrefixByte_eq_false {cfg : Config} {op : Byte} (h : notAPrefix cfg.arch cfg.tables op = true) :
    isPrefixByte cfg op = false := by
  cases harch : cfg.arch <;> simpa [notAPrefix, isPrefixByte, harch] using h

section
variable {cfg : Config} {l : Widths} {op : Byte} {modrm : Bool}
variable (hp : notAPrefix cfg.arch cfg.tables op = true) (hop : op ≠ 0x0F#8)
variable (hm : tableHas cfg.tables.op1Modrm op = modrm)
include hp hop hm

theorem plainOpcode_of_noPair (h8 : tableHas cfg.tables.op1G3Imm8 op = false)
    (hd : tableHas cfg.tables.op1G3ImmDef op = false) :
    PlainOpcode cfg l op modrm (tableImmediate cfg (defaultWidth cfg l) (fullWidth cfg l) l.amoffs op 0) where
  notPrefix := isPrefixByte_eq_false hp
  dispatch rest := by
    unfold dispatchOpcode classifyOne pairImmediate tableImmediate
    simp [hop, hm, h8, hd, widthIf_eq]

theorem plainOpcode_of_none (h : carriesNoImmediate cfg.tables op = true) : PlainOpcode cfg l op modrm 0 := by
  have himm := tableImmediate_of_none h (defaultWidth cfg l) (fullWidth cfg l) l.amoffs 0
  simp only [carriesNoImmediate, Bool.and_eq_true, Bool.not_eq_true'] at h
  exact himm ▸ plainOpcode_of_noPair hp hop hm h.1.2 h.2

theorem plainOpcode_of_imm8 (h : carriesOnlyImm8 cfg.tables op = true) : PlainOpcode cfg l op modrm 1 := by
  simp only [carriesOnlyImm8, Bool.and_eq_true, Bool.not_eq_true'] at h
  have hplain := plainOpcode_of_noPair (l := l) hp hop hm h.1.2 h.2
  simpa [tableImmediate, h] using hplain

theorem plainOpcode_of_moffs (h : carriesOnlyMoffs cfg.tables op = true) : PlainOpcode cfg l op modrm l.amoffs := by
  simp only [carriesOnlyMoffs, Bool.and_eq_true, Bool.not_eq_true'] at h
  have hplain := plainOpcode_of_noPair (l := l) hp hop hm h.1.2 h.2
  simpa [tableImmediate, h] using hplain

end

section
variable {cfg : Config} {pre : List Byte} {l : Widths} {op : Byte} {modrm : Bool} {imm : Nat} {rest : List Byte}
variable (hpre : ∀ b ∈ pre, isPrefixByte cfg b = true)
variable (hl : pre.foldl (consumePrefix cfg) (startWidths cfg.arch) = l)

include hpre hl in
theorem measure_of_plain (h : PlainOpcode cfg l op modrm imm) (c d : Nat)
    (haddr : addressing l modrm rest = some (c, d)) :
    measure cfg (pre ++ op :: rest)
      = if c + (d + imm) ≤ rest.length then
          { total := pre.length + 1 + (c + (d + imm)), opcodeBytes := 1
            argumentBytes := c + (d + imm), prefixBytes := pre.length }
        else failedBreakdown := by
  rw [measure_of_dispatch hpre h.notPrefix hl (h.dispatch rest) haddr]
  exact if_congr (by simp only; omega) rfl rfl

include hpre hl in
theorem measure_total_of_plain (h : PlainOpcode cfg l op modrm imm) (c d : Nat)
    (haddr : addressing l modrm rest = some (c, d)) (hfit : c + (d + imm) ≤ rest.length) :
    (measure cfg (pre ++ op :: rest)).total = pre.length + 1 + (c + (d + imm)) := by
  rw [measure_of_plain hpre hl h c d haddr, if_pos hfit]

theorem measure_total_of_unprefixed (h : PlainOpcode cfg (startWidths cfg.arch) op modrm imm) (c d : Nat)
    (haddr : addressing (startWidths cfg.arch) modrm rest = some (c, d)) (hfit : c + (d + imm) ≤ rest.length) :
    (measure cfg (op :: rest)).total = 1 + (c + (d + imm)) := by
  simpa using measure_total_of_plain (pre := []) nofun rfl h c d haddr hfit

end

/-- R105: the eight scenarios of the 32-bit engine. -/
theorem scenarios_x86 (cfg : Config) (d e f g : Byte) (harch : cfg.arch = .x86)
    (h : tablesEntries .x86 cfg.tables = true) :
    (measure cfg [0x40#8]).total = 1 ∧ (measure cfg [0xB8#8, d, e, f, g]).total = 5
      ∧ (measure cfg [0x04#8, d]).total = 2 ∧ (measure cfg [0x89#8, 0x5D#8, d]).total = 3
      ∧ (measure cfg [0x84#8, 0xC0#8]).total = 2 ∧ (measure cfg [0xDD#8, 0x84#8, 0x00#8, d, e, f, g]).total = 7
      ∧ (measure cfg [0x67#8, 0xA1#8, d, e]).total = 4 ∧ (measure cfg [0xC3#8]).total = 1 := by
  simp only [tablesEntries, Bool.and_eq_true, Bool.not_eq_true', and_assoc, beq_iff_eq, bne_iff_ne] at h
  obtain ⟨p40, m40, i40, pB8, mB8, iB8, imm8B8, imm16B8, moffsB8, pair8B8, pairDefB8, p04, m04, i04, p89, m89, i89,
    p84, m84, i84, pDD, mDD, iDD, legacy67, adsize67, pA1, mA1, iA1, pC3, mC3, iC3⟩ := h
  rw [← harch] at p40 pB8 p04 p89 p84 pDD pA1 pC3
  have hB8 : PlainOpcode cfg (startWidths cfg.arch) 0xB8#8 false 4 := by
    have hplain := plainOpcode_of_noPair (l := startWidths cfg.arch) pB8 (by decide) mB8 pair8B8 pairDefB8
    have hwidth : (if tableHas cfg.tables.op1ImmDef 0xB8#8 then 4 else 0)
        + (if tableHas cfg.tables.op1ImmFull 0xB8#8 then 4 else 0) = 4 := by
      cases hdef : tableHas cfg.tables.op1ImmDef 0xB8#8 <;> cases hfull : tableHas cfg.tables.op1ImmFull 0xB8#8 <;>
        simp [hdef, hfull] at iB8 ⊢
    simpa [tableImmediate, imm8B8, imm16B8, moffsB8, pair8B8, pairDefB8, hwidth] using hplain
  have h67 : ∀ b ∈ [0x67#8], isPrefixByte cfg b = true := by simp [isPrefixByte, legacy67]
  have hamoffs : (consumePrefix cfg (startWidths cfg.arch) 0x67#8).amoffs = 2 := by
    simp [consumePrefix, consumeLegacy, legacy67, adsize67, harch]
  have hA1 := hamoffs ▸ plainOpcode_of_moffs (l := consumePrefix cfg (startWidths cfg.arch) 0x67#8) pA1 (by decide) mA1 iA1
  exact ⟨measure_total_of_unprefixed (plainOpcode_of_none p40 (by decide) m40 i40) 0 0 rfl (Nat.le_refl 0),
    measure_total_of_unprefixed hB8 0 0 rfl (Nat.le_refl 4),
    measure_total_of_unprefixed (plainOpcode_of_imm8 p04 (by decide) m04 i04) 0 0 rfl (Nat.le_refl 1),
    measure_total_of_unprefixed (plainOpcode_of_none p89 (by decide) m89 i89) 1 1 rfl (Nat.le_refl 2),
    measure_total_of_unprefixed (plainOpcode_of_none p84 (by decide) m84 i84) 1 0 rfl (Nat.le_refl 1),
    measure_total_of_unprefixed (plainOpcode_of_none pDD (by decide) mDD iDD) 2 4 rfl (Nat.le_refl 6),
    measure_total_of_plain h67 rfl hA1 0 0 rfl (Nat.le_refl 2),
    measure_total_of_unprefixed (plainOpcode_of_none pC3 (by decide) mC3 iC3) 0 0 rfl (Nat.le_refl 0)⟩

/-- R105, R233: the two items of the 64-bit fixture, whatever follows them. -/
theorem scenarios_x64 (cfg : Config) (d : Byte) (tail : List Byte) (harch : cfg.arch = .x64)
    (h : tablesEntries .x64 cfg.tables = true) :
    (measure cfg (0x40#8 :: 0x55#8 :: tail)).total = 2
      ∧ (measure cfg (0x48#8 :: 0x83#8 :: 0xEC#8 :: d :: tail)).total = 4 := by
  simp only [tablesEntries, Bool.and_eq_true, Bool.not_eq_true', and_assoc] at h
  obtain ⟨rex40, rex48, p55, m55, i55, p83, m83, i83⟩ := h
  rw [← harch] at p55 p83
  have h40 : ∀ b ∈ [0x40#8], isPrefixByte cfg b = true := by simp [isPrefixByte, harch, rex40]
  have h48 : ∀ b ∈ [0x48#8], isPrefixByte cfg b = true := by simp [isPrefixByte, harch, rex48]
  exact ⟨measure_total_of_plain h40 rfl (plainOpcode_of_none p55 (by decide) m55 i55) 0 0 rfl (Nat.zero_le _),
    measure_total_of_plain h48 rfl (plainOpcode_of_imm8 p83 (by decide) m83 i83) 1 0 rfl (Nat.le_add_left 2 _)⟩

/-- Settles O16: every opcode of the scenarios is outside the group pair, so its entries fix its length. -/
theorem sourceScenariosForEveryTable : Obligations.SourceScenariosForEveryTable :=
  ⟨scenarios_x86, scenarios_x64⟩

/-! The constraints on T (R105, R106). -/

theorem tablesStructural_default : tablesStructural defaultTables = true := by decide

theorem tablesEntries_default (arch : Arch) : tablesEntries arch defaultTables = true := by
  cases arch <;> decide

/-- R105: the addressing byte 80 asks for four bytes of displacement that are not there. -/
theorem measure_00_80 {cfg : Config} (ht : cfg.tables = defaultTables) (harch : cfg.arch = .x64) :
    measure cfg [0x00#8, 0x80#8] = failedBreakdown := by
  have h00 : PlainOpcode cfg (startWidths cfg.arch) 0x00#8 true 0 := by
    refine plainOpcode_of_none ?_ (by decide) ?_ ?_ <;> rw [ht]
    · rw [harch]; decide
    · decide
    · decide
  exact (measure_of_plain (pre := []) nofun rfl h00 1 4 rfl).trans (if_neg (by decide))

/-- Settles O17: the entries are looked up; the slice 00 80 fails whatever the other constants are. -/
theorem defaultTablesMeetTheConstraints : Obligations.DefaultTablesMeetTheConstraints := by
  refine ⟨tablesStructural_default, tablesEntries_default .x86, tablesEntries_default .x64, fun cfg ht => ?_⟩
  refine ⟨measure_00_80 ht, ?_⟩
  rw [instanceAccepted, tablesScenario, ht, tablesStructural_default, tablesEntries_default]
  cases harch : cfg.arch with
  | x86 => rfl
  | x64 => rw [measure_00_80 ht harch]; rfl

end Sys2Proof.Proofs.Encoding
end

section
/-! The lengths of the opcode rows under T_default: the fields of a row are the tables' entries at its byte, so the pull on an
instruction of the row yields what the fields ask for. -/

namespace Sys2Proof.Proofs.Encoding

open Sys2Proof.Machine Host

/-! The pull of a row. -/

section
variable {i : Instr} {s : State}

/-- R225, R227: a row whose bytes stand at CUR yields the instruction that the engine measures there. -/
theorem exec_row_yields (hc : isCommand i = false) (hs : Pullable s) (hlead : encode i <+: remainingBytes s) {n : Nat}
    (hn : (measure s.cfg (remainingBytes s)).total = n) (hpos : 0 < n) (hfits : VaFits n s) :
    exec i s = .next (yieldedState n s) := by
  obtain ⟨hfault, hexh, hcur, hend⟩ := hs
  calc exec i s = sweep (encode i) s := exec_row i s hc
    _ = withRemaining s fun remaining => pullText (textFrom (encode i) remaining) s := unlessExhausted_runs hfault hexh _
    _ = pullText (textFrom (encode i) (remainingBytes s)) s := withRemaining_inside hcur hend _
    _ = pullText (remainingBytes s) s := by rw [textFrom_of_prefix hlead]
    _ = .next (yieldedState n s) := by rw [pullText_eq, hn, if_neg (by omega), if_pos hfits]

end

/-! The fields of a row and the entries of the tables (R90, R114 to R122). -/

/-- R117: the default set of `reg` values. -/
theorem defaultG3ImmRegs_reg (m : Byte) : defaultG3ImmRegs.getLsbD (regField m) = decide (regField m ≤ 1) := by
  have hall : ∀ r < 8, defaultG3ImmRegs.getLsbD r = decide (r ≤ 1) := by decide
  exact hall _ (Nat.mod_lt _ (by decide))

section
variable {cfg : Config} {op : Byte}

theorem tableImmediate_of_agrees {f : OneFields} (hg : cfg.g3ImmRegs = defaultG3ImmRegs)
    (h : oneAgrees cfg.tables f op = true) (m : Byte) :
    tableImmediate cfg 4 4 (absoluteWidth cfg.arch false) op m = oneImmediate cfg.arch f m := by
  simp only [oneAgrees, Bool.and_eq_true, beq_iff_eq] at h
  obtain ⟨⟨⟨⟨⟨⟨⟨⟨-, -⟩, himm8⟩, hdef⟩, hfull⟩, himm16⟩, hmoffs⟩, hpair8⟩, hpairDef⟩ := h
  have hwidth : absoluteWidth cfg.arch false = if cfg.arch = .x86 then 4 else 8 := by cases cfg.arch <;> rfl
  rw [tableImmediate, hg, defaultG3ImmRegs_reg, himm8, hdef, hfull, himm16, hmoffs, hpair8, hpairDef, hwidth, oneImmediate]
  cases f.pair <;> simp

theorem tableImmediateTwo_of_agrees {f : TwoFields} (h : twoAgrees cfg.tables f op = true) :
    tableImmediateTwo cfg 4 op = twoImmediate f := by
  simp only [twoAgrees, Bool.and_eq_true, beq_iff_eq] at h
  obtain ⟨⟨⟨⟨-, -⟩, himm8⟩, hdef⟩, himm16⟩ := h
  rw [tableImmediateTwo, hdef, himm8, himm16, twoImmediate]
  omega

end

/-- An absolute form is longest on X64, and the group pair has its immediate at `reg` 0. -/
theorem oneImmediate_le_at_x64 (arch : Arch) (f : OneFields) (m : Byte) :
    oneImmediate arch f m ≤ oneImmediate .x64 f 0x00#8 := by
  unfold oneImmediate
  gcongr
  · cases arch <;> cases f.moffs <;> decide
  · cases f.pair with
    | none => exact Nat.le_refl 0
    | imm8 | immDef => dsimp only; split <;> decide

/-- No row of the one-byte map has two of the long immediates. -/
theorem oneImmediate_le {i : Instr} {f : OneFields} (h : rowClass i = .one f) (arch : Arch) (m : Byte) :
    oneImmediate arch f m ≤ 8 := by
  refine Nat.le_trans (oneImmediate_le_at_x64 arch f m) ?_
  cases i <;> cases h <;> decide

theorem twoImmediate_le (f : TwoFields) : twoImmediate f ≤ 7 := by
  unfold twoImmediate
  split_ifs <;> decide

/-! The rows of each map. -/

section
variable {i : Instr} {arch : Arch}

theorem isCommand_of_rowClass_ne (h : rowClass i ≠ .command) : isCommand i = false :=
  Bool.eq_false_iff.mpr fun hc => h (rowClass_command.mpr hc)

theorem tableHas_defaultIsRex : ∀ op, tableHas defaultIsRex op = true ↔ 0x40#8 ≤ op ∧ op ≤ 0x4F#8 := by decide

/-- R114: the prefixes of an instance over T_default. -/
theorem isPrefixByte_default {cfg : Config} (ht : cfg.tables = defaultTables) (op : Byte) :
    isPrefixByte cfg op = true ↔ tableHas defaultTables.isLegacyPrefix op = true ∨ RexByte cfg.arch op := by
  have hrex : tableHas defaultTables.isRex op = true ↔ 0x40#8 ≤ op ∧ op ≤ 0x4F#8 := tableHas_defaultIsRex op
  simp only [isPrefixByte, ht, Bool.or_eq_true, Bool.and_eq_true, beq_iff_eq, hrex]

/-- A one-byte opcode row that the architecture has is not met by a REX prefix (R83). -/
theorem not_rexByte_of_one {f : OneFields} {op : Byte} (h : rowClass i = .one f) (henc : encode i = [op])
    (hw : wellFormed arch i = true) : ¬ RexByte arch op := by
  have hrow := rowAt_encode i (isCommand_of_rowClass_ne (by simp [h]))
  rw [henc] at hrow
  cases hrow with
  | one => exact (wellFormed_decodeOne arch op).mp hw
  | rex sel => cases h

end

/-- A byte of a one-byte opcode row is no prefix and no escape under T_default, and its entries are the row's fields. -/
theorem oneRow_byte {cfg : Config} {i : Instr} {f : OneFields} {op : Byte} (ht : cfg.tables = defaultTables)
    (h : rowClass i = .one f) (henc : encode i = [op]) (hw : wellFormed cfg.arch i = true) :
    isPrefixByte cfg op = false ∧ op ≠ 0x0F#8 ∧ oneAgrees cfg.tables f op = true := by
  have hagrees := rowsAgreeWithTheDefaultTables i
  rw [h, henc] at hagrees
  obtain ⟨hop, hone⟩ : (op != 0x0F#8) = true ∧ oneAgrees defaultTables f op = true := Bool.and_eq_true_iff.mp hagrees
  have hlegacy : tableHas defaultTables.isLegacyPrefix op = false := by
    simp only [oneAgrees, Bool.and_eq_true, Bool.not_eq_true'] at hone
    simp only [hone]
  have hprefix : isPrefixByte cfg op ≠ true := by
    rw [Ne, isPrefixByte_default ht, hlegacy]
    exact fun hp => hp.elim nofun (not_rexByte_of_one h henc hw)
  exact ⟨Bool.eq_false_iff.mpr hprefix, bne_iff_ne.mp hop, ht ▸ hone⟩

/-- Settles O30: the pull of the row, with the engine's measure in the words of the row's fields. -/
theorem oneByteRowsYieldTheirLength : Obligations.OneByteRowsYieldTheirLength := by
  intro i s f op m x tail hclass hwell ⟨htables, hregs⟩ hpull henc hrem hlen hfits
  obtain ⟨hprefix, hop, hagrees⟩ := oneRow_byte htables hclass henc hwell
  have hmodrm : tableHas s.cfg.tables.op1Modrm op = f.modrm := by
    simp only [oneAgrees, Bool.and_eq_true, beq_iff_eq] at hagrees
    simp only [hagrees]
  have haddr := addressingTail_le (Nat.le_refl 4) m x
  have himm := oneImmediate_le hclass s.cfg.arch m
  have htotal := measure_total_one (pre := []) (l := startWidths s.cfg.arch) (m := m) (x := x) (tail := tail) nofun rfl
    hprefix hop (n := (if f.modrm then 1 + addressingTail 4 m x else 0) + oneImmediate s.cfg.arch f m)
    (by rw [hmodrm, startWidths_adisp, startWidths_amoffs, defaultWidth_start, fullWidth_start,
      tableImmediate_of_agrees hregs hagrees])
    (by split <;> omega)
  rw [List.nil_append, ← hrem, List.length_nil, Nat.zero_add, ← Nat.add_assoc] at htotal
  refine exec_row_yields (isCommand_of_rowClass_ne (by simp [hclass])) hpull ?_ htotal (by omega) hfits
  rw [henc, hrem]
  exact ⟨m :: x :: tail, rfl⟩

section
variable {i : Instr}

/-- The bytes of a two-byte opcode row: the escape, and a byte that is no second escape, with the row's fields. -/
theorem twoRow_bytes {f : TwoFields} (h : rowClass i = .two f) :
    ∃ op, encode i = [0x0F#8, op] ∧ op ≠ 0x38#8 ∧ op ≠ 0x3A#8 ∧ tableHas defaultTables.op2Invalid op = false
      ∧ twoAgrees defaultTables f op = true := by
  have hagrees := rowsAgreeWithTheDefaultTables i
  rw [h] at hagrees
  match encode i, hagrees with
  | [e, op], hagrees =>
    simp only [rowAgrees, Bool.and_eq_true, beq_iff_eq, bne_iff_ne] at hagrees
    obtain ⟨⟨⟨rfl, h38⟩, h3A⟩, htwo⟩ := hagrees
    have hvalid := htwo
    simp only [twoAgrees, Bool.and_eq_true, Bool.not_eq_true'] at hvalid
    exact ⟨op, rfl, h38, h3A, by simp only [hvalid], htwo⟩

/-- The bytes of a three-byte opcode row: the escapes of its map and a byte that is valid there. -/
theorem threeRow_bytes {imm8 : Bool} (h : rowClass i = .three imm8) :
    ∃ op, encode i = [0x0F#8, threeEscape imm8, op] ∧ tableHas (threeInvalid defaultTables imm8) op = false := by
  have hagrees := rowsAgreeWithTheDefaultTables i
  rw [h] at hagrees
  match encode i, hagrees with
  | [e, e2, op], hagrees =>
    simp only [rowAgrees, Bool.and_eq_true, beq_iff_eq, Bool.not_eq_true'] at hagrees
    obtain ⟨⟨rfl, rfl⟩, hvalid⟩ := hagrees
    exact ⟨op, rfl, hvalid⟩

end

section
variable {i : Instr} {s : State} {m x : Byte} {tail : List Byte}
variable (hruns : RunsDefault s) (hpull : Pullable s) (hlen : 16 ≤ tail.length)
variable (hrem : remainingBytes s = encode i ++ m :: x :: tail)
include hruns hpull hlen hrem

theorem exec_two_yields {f : TwoFields} (hclass : rowClass i = .two f)
    (hfits : VaFits (2 + (if f.modrm then 1 + addressingTail 4 m x else 0) + twoImmediate f) s) :
    exec i s = .next (yieldedState (2 + (if f.modrm then 1 + addressingTail 4 m x else 0) + twoImmediate f) s) := by
  obtain ⟨htables, -⟩ := hruns
  obtain ⟨op, henc, h38, h3A, hvalid, hagrees⟩ := twoRow_bytes hclass
  rw [← htables] at hvalid hagrees
  have hmodrm : tableHas s.cfg.tables.op2Modrm op = f.modrm := by
    simp only [twoAgrees, Bool.and_eq_true, beq_iff_eq] at hagrees
    simp only [hagrees]
  have haddr := addressingTail_le (Nat.le_refl 4) m x
  have himm := twoImmediate_le f
  have htotal := measure_total_two (pre := []) (l := startWidths s.cfg.arch) (m := m) (x := x) (tail := tail) nofun rfl
    (htables ▸ tablesStructural_default) h38 h3A hvalid
    (n := (if f.modrm then 1 + addressingTail 4 m x else 0) + twoImmediate f)
    (by rw [hmodrm, startWidths_adisp, defaultWidth_start, tableImmediateTwo_of_agrees hagrees])
    (by split <;> omega)
  have htext : remainingBytes s = [] ++ 0x0F#8 :: op :: m :: x :: tail := by rw [hrem, henc]; rfl
  rw [← htext, List.length_nil, Nat.zero_add, ← Nat.add_assoc] at htotal
  exact exec_row_yields (isCommand_of_rowClass_ne (by simp [hclass])) hpull ⟨_, hrem.symm⟩ htotal (by omega) hfits

theorem exec_three_yields {imm8 : Bool} (hclass : rowClass i = .three imm8)
    (hfits : VaFits (4 + addressingTail 4 m x + (if imm8 then 1 else 0)) s) :
    exec i s = .next (yieldedState (4 + addressingTail 4 m x + (if imm8 then 1 else 0)) s) := by
  obtain ⟨htables, -⟩ := hruns
  obtain ⟨op, henc, hvalid⟩ := threeRow_bytes hclass
  rw [← htables] at hvalid
  have haddr := addressingTail_le (Nat.le_refl 4) m x
  have htotal := measure_total_three (pre := []) (l := startWidths s.cfg.arch) (m := m) (x := x) (tail := tail) nofun rfl
    (htables ▸ tablesStructural_default) imm8 hvalid rfl (by rw [startWidths_adisp]; split <;> omega)
  have htext : remainingBytes s = [] ++ 0x0F#8 :: threeEscape imm8 :: op :: m :: x :: tail := by rw [hrem, henc]; rfl
  rw [← htext, List.length_nil, startWidths_adisp] at htotal
  refine exec_row_yields (isCommand_of_rowClass_ne (by simp [hclass])) hpull ⟨_, hrem.symm⟩ ?_ (by omega) hfits
  omega

end

/-- Settles O31: the bytes of the row are those of its map, and its fields are the entries at the last of them. -/
theorem longerRowsYieldTheirLength : Obligations.LongerRowsYieldTheirLength :=
  fun _ _ _ _ _ hruns hpull hlen hrem =>
    ⟨fun _ hclass => exec_two_yields hruns hpull hlen hrem hclass,
      fun _ hclass => exec_three_yields hruns hpull hlen hrem hclass⟩

end Sys2Proof.Proofs.Encoding
end

section
/-! The statements of 40_decode.md about the decode as a whole: the two decode commands, the bound and the shape of a
breakdown, and which bytes of the slice a decode needs. -/

namespace Sys2Proof.Proofs.Decode

open Sys2Proof.Machine Host

/-! The decode commands (R140, R174). -/

section
variable {s : State} {base len : Nat}

theorem unlessLatched_withSlice_inside (hf : s.fault = false) (hb : base + len ≤ s.mem.size)
    (run : List Byte → Outcome State Machine.Fault Refusal) :
    unlessLatched s (withSlice base len s run) = run (s.mem.slice base len) := by
  rw [unlessLatched_clear hf, withSlice_inside hb]

end

/-- Settles O3: with no fault latched and the slice inside the buffer, each command runs the engine on the slice. -/
theorem decodeCommandsAnswerTheEngine : Obligations.DecodeCommandsAnswerTheEngine :=
  fun _ _ _ hf hb => ⟨unlessLatched_withSlice_inside hf hb _, unlessLatched_withSlice_inside hf hb _⟩

/-- Settles O4: the total is checked against the slice (R170). -/
theorem decodeNeverExceedsTheSlice : Obligations.DecodeNeverExceedsTheSlice :=
  BlockState.measure_total_le

/-! The shape of a breakdown (R171, R173). -/

section
variable {cfg : Config} {l : Widths} {op : Byte} {rest : List Byte} {info : OpcodeInfo}

theorem classifyOne_count (h : classifyOne cfg l op rest = some info) : info.count = 1 := by
  unfold classifyOne at h
  cases hpair : pairImmediate cfg l op rest with
  | none => simp [hpair] at h
  | some pair =>
    simp only [hpair, Option.some.injEq] at h
    rw [← h]

theorem classifyTwo_count (h : classifyTwo cfg l op rest = some info) : info.count = 2 := by
  simp only [classifyTwo] at h
  split at h
  · cases h
  · cases h; rfl

theorem classifyThree_count {invalid : ByteSet} {imm : Nat} (h : classifyThree invalid imm op rest = some info) :
    info.count = 3 := by
  unfold classifyThree at h
  split at h
  · cases h
  · cases h; rfl

/-- R149 to R152, R156: each branch of the dispatch that answers is a map's classification. -/
theorem dispatchOpcode_count (h : dispatchOpcode cfg l op rest = some info) : 1 ≤ info.count ∧ info.count ≤ 3 := by
  suffices hcount : info.count = 1 ∨ info.count = 2 ∨ info.count = 3 by omega
  unfold dispatchOpcode at h
  split at h
  case isFalse => exact .inl (classifyOne_count h)
  case isTrue =>
    match rest with
    | [] => cases h
    | op2 :: rest2 =>
      simp only at h
      split_ifs at h
      case neg => exact .inr (.inl (classifyTwo_count h))
      all_goals
        match rest2 with
        | [] => cases h
        | op3 :: rest3 => exact .inr (.inr (classifyThree_count h))

theorem afterPrefixes_opcodeBytes {p o c a : Nat} (h : afterPrefixes cfg l op rest = some (p, o, c, a)) :
    1 ≤ o ∧ o ≤ 3 := by
  unfold afterPrefixes at h
  cases hd : dispatchOpcode cfg l op rest with
  | none => simp [hd] at h
  | some info =>
    cases ha : addressing l info.modrm info.rest with
    | none => simp [hd, ha] at h
    | some cd =>
      simp only [hd, ha, Option.some.injEq, Prod.mk.injEq] at h
      obtain ⟨-, rfl, -, -⟩ := h
      exact dispatchOpcode_count hd

end

/-- Settles O8: the total of a success is the sum of its parts, one of which is an opcode of one byte or more. -/
theorem breakdownAddsUpOrIsAllZero : Obligations.BreakdownAddsUpOrIsAllZero := by
  intro cfg b
  rcases measure_cases cfg b with hfail | ⟨l, op, rest, p, o, c, a, -, hafter, -, hm⟩
  · exact .inl hfail
  · obtain ⟨hpos, hle⟩ := afterPrefixes_opcodeBytes hafter
    refine .inr ?_
    simp only [hm]
    exact ⟨by omega, trivial, hpos, hle⟩

/-- R173: only the failure value has the total 0. -/
theorem measure_of_total_zero {cfg : Config} {b : List Byte} (h : (measure cfg b).total = 0) :
    measure cfg b = failedBreakdown := by
  rcases breakdownAddsUpOrIsAllZero cfg b with hfail | ⟨hpos, -⟩
  · exact hfail
  · omega

/-! Which bytes a decode needs (R177). -/

/-- Settles O5: the bytes that a decode reads are among those of the instruction (R58), and they decide the breakdown of
every slice that holds the total. -/
theorem decodeNeedsNoByteBeyondTheInstruction : Obligations.DecodeNeedsNoByteBeyondTheInstruction := by
  intro cfg b b' htables hpos hlen hagree
  have hread : bytesRead cfg b ≤ (measure cfg b).total := (measure_local htables hpos rfl).1
  have hagree' : b'.take (bytesRead cfg b) = b.take (bytesRead cfg b) := by
    simpa only [List.take_take, Nat.min_eq_left hread] using congrArg (List.take (bytesRead cfg b)) hagree
  rw [(measure_local htables hpos hagree').2, if_pos hlen]

/-- Settles O6: if the first `k` bytes decoded, their breakdown would be that of the whole slice (R177), whose total is
more than `k`. -/
theorem cutInstructionFails : Obligations.CutInstructionFails := by
  intro cfg b k htables hk
  refine measure_of_total_zero (Nat.eq_zero_of_not_pos fun hpos => ?_)
  have hcut : (measure cfg (b.take k)).total ≤ (b.take k).length := decodeNeverExceedsTheSlice cfg _
  rw [List.length_take] at hcut
  have hwhole : measure cfg b = measure cfg (b.take k) := by
    refine decodeNeedsNoByteBeyondTheInstruction cfg (b.take k) b htables hpos (by omega) ?_
    rw [List.take_take, Nat.min_eq_left (by omega)]
  rw [hwhole] at hk
  omega

end Sys2Proof.Proofs.Decode
end

section
/-! The statements of 40_decode.md about REX.W and the prefixes that are only counted. After the prefix loop a decode
looks at the loop's values through the operand widths alone, so two runs of prefixes with the same widths measure the
same instruction after them. -/

namespace Sys2Proof.Proofs.Decode

open Sys2Proof.Machine Sys2Proof.Proofs.Encoding

/-! What the steps after the prefix loop look at (R147, R149 to R169). -/

/-- Two instances with the same tables and the same set of `reg` values, and values of their prefix loops that give
every operand the same width. -/
structure SameWidths (cfg cfg' : Config) (l l' : Widths) : Prop where
  tables : cfg'.tables = cfg.tables
  regs : cfg'.g3ImmRegs = cfg.g3ImmRegs
  default : defaultWidth cfg' l' = defaultWidth cfg l
  full : fullWidth cfg' l' = fullWidth cfg l
  adisp : l'.adisp = l.adisp
  amoffs : l'.amoffs = l.amoffs

section
variable {cfg cfg' : Config} {l l' : Widths}

/-- R158, R159: the widths of the immediates from `ddef` and `widen`. -/
theorem sameWidths_of_widen (htables : cfg'.tables = cfg.tables) (hregs : cfg'.g3ImmRegs = cfg.g3ImmRegs)
    (hwiden : widen cfg' l' = widen cfg l) (hddef : l'.ddef = l.ddef) (hadisp : l'.adisp = l.adisp)
    (hamoffs : l'.amoffs = l.amoffs) : SameWidths cfg cfg' l l' where
  tables := htables
  regs := hregs
  default := by rw [defaultWidth, defaultWidth, hwiden, hddef]
  full := by rw [fullWidth, fullWidth, hwiden, hddef]
  adisp := hadisp
  amoffs := hamoffs

variable (h : SameWidths cfg cfg' l l')
include h

theorem dispatchOpcode_sameWidths (op : Byte) (rest : List Byte) :
    dispatchOpcode cfg' l' op rest = dispatchOpcode cfg l op rest := by
  unfold dispatchOpcode classifyOne classifyTwo pairImmediate
  simp only [h.tables, h.regs, h.default, h.full, h.amoffs]

theorem addressing_sameWidths (modrm : Bool) (rest : List Byte) :
    addressing l' modrm rest = addressing l modrm rest := by
  unfold addressing displacement
  simp only [h.adisp]

theorem afterPrefixes_sameWidths (op : Byte) (rest : List Byte) :
    afterPrefixes cfg' l' op rest = (afterPrefixes cfg l op rest).map fun x => (l'.count, x.2) := by
  unfold afterPrefixes
  rw [dispatchOpcode_sameWidths h]
  cases dispatchOpcode cfg l op rest with
  | none => rfl
  | some info =>
    simp only [addressing_sameWidths h]
    cases addressing l info.modrm info.rest <;> rfl

end

theorem isPrefixByte_congr {cfg cfg' : Config} (harch : cfg'.arch = cfg.arch) (htables : cfg'.tables = cfg.tables)
    (b : Byte) : isPrefixByte cfg' b = isPrefixByte cfg b := by
  rw [isPrefixByte, isPrefixByte, harch, htables]

@[simp] theorem withPrefixes_failed (n : Nat) : withPrefixes n failedBreakdown = failedBreakdown := rfl

@[simp] theorem withPrefixes_zero (r : Breakdown) : withPrefixes 0 r = r := by
  unfold withPrefixes
  split <;> rfl

theorem afterPrefixes_prefixBytes {cfg : Config} {l : Widths} {op : Byte} {rest : List Byte} {p o c a : Nat}
    (h : afterPrefixes cfg l op rest = some (p, o, c, a)) : p = l.count := by
  have hmap := h.symm.trans (afterPrefixes_withCount cfg l l.count op rest)
  rw [h] at hmap
  exact congrArg Prod.fst (Option.some.inj hmap)

/-- Two runs of prefixes with the same widths: what follows them measures the same, but for the number of prefixes. -/
theorem measure_sameWidths {cfg cfg' : Config} {pre pre' : List Byte} {op : Byte}
    (hwidths : SameWidths cfg cfg' (pre.foldl (consumePrefix cfg) (startWidths cfg.arch))
      (pre'.foldl (consumePrefix cfg') (startWidths cfg'.arch)))
    (harch : cfg'.arch = cfg.arch) (hpre : ∀ b ∈ pre, isPrefixByte cfg b = true)
    (hpre' : ∀ b ∈ pre', isPrefixByte cfg b = true) (hop : isPrefixByte cfg op = false) {n : Nat}
    (hlen : pre'.length = pre.length + n) (rest : List Byte) :
    measure cfg' (pre' ++ op :: rest) = withPrefixes n (measure cfg (pre ++ op :: rest)) := by
  have hprefix := isPrefixByte_congr harch hwidths.tables
  rw [measure_run cfg pre op rest hpre hop,
    measure_run cfg' pre' op rest (by simpa only [hprefix] using hpre') (by rw [hprefix, hop]),
    afterPrefixes_sameWidths hwidths]
  cases hafter : afterPrefixes cfg (pre.foldl (consumePrefix cfg) (startWidths cfg.arch)) op rest with
  | none => rfl
  | some parts =>
    obtain ⟨p, o, c, a⟩ := parts
    obtain ⟨hopcode, -⟩ := afterPrefixes_opcodeBytes hafter
    have hp : p = pre.length := by simpa using (afterPrefixes_prefixBytes hafter).trans (foldl_consumePrefix_count ..)
    simp only [Option.map_some, foldl_consumePrefix_count, startWidths_count, hlen, hp]
    split_ifs with hfit' hfit
    · rw [withPrefixes, if_neg (by simp only; omega)]
      simp only [Breakdown.mk.injEq, true_and]
      omega
    · omega
    · omega
    · rfl

/-! A legacy prefix (R142). -/

/-- A legacy prefix other than the two overrides leaves the widths at the start of a decode as they are. -/
theorem consumePrefix_start_of_counted {cfg : Config} {b : Byte} (hlegacy : tableHas cfg.tables.isLegacyPrefix b = true)
    (hopsize : b ≠ cfg.tables.opsize) (hadsize : b ≠ cfg.tables.adsize) :
    consumePrefix cfg (startWidths cfg.arch) b = { startWidths cfg.arch with count := 1 } := by
  rw [consumePrefix, if_pos hlegacy, consumeLegacy, if_neg hopsize, if_neg hadsize]
  rfl

/-- Settles O10: after the prefix, the loop has the same values but for the count. -/
theorem legacyPrefixIsOnlyCounted : Obligations.LegacyPrefixIsOnlyCounted := by
  intro cfg b s hlegacy hopsize hadsize
  have hb : isPrefixByte cfg b = true := by simp [isPrefixByte, hlegacy]
  suffices hcount : measure cfg (b :: s) = withPrefixes 1 (measure cfg s) by
    rw [hcount, withPrefixes]
    split
    case isTrue hzero => exact measure_of_total_zero hzero
    case isFalse => rfl
  rcases split_run cfg s with hall | ⟨pre, op, rest, rfl, hpre, hop⟩
  · rw [measure_all_prefix cfg (b :: s) (List.forall_mem_cons.mpr ⟨hb, hall⟩), measure_all_prefix cfg s hall]
    rfl
  · refine measure_sameWidths (pre' := b :: pre) ?_ rfl hpre (List.forall_mem_cons.mpr ⟨hb, hpre⟩) hop rfl rest
    rw [List.foldl_cons, consumePrefix_start_of_counted hlegacy hopsize hadsize,
      foldl_consumePrefix_withCount cfg pre _ 1]
    exact ⟨rfl, rfl, rfl, rfl, rfl, rfl⟩

/-! REXW_POLICY (R147). -/

section
variable {cfg : Config} {pre : List Byte} {op : Byte}

theorem foldl_rexw_of_legacy (hpre : ∀ b ∈ pre, tableHas cfg.tables.isLegacyPrefix b = true) {l : Widths}
    (hl : l.rexw = false) : (pre.foldl (consumePrefix cfg) l).rexw = false := by
  induction pre generalizing l with
  | nil => exact hl
  | cons b pre ih =>
    obtain ⟨hb, hpre⟩ := List.forall_mem_cons.mp hpre
    refine ih hpre ?_
    rw [consumePrefix, if_pos hb]
    rfl

theorem widen_of_rexw {l : Widths} (h : l.rexw = false) : widen cfg l = false := by
  rw [widen, h, Bool.false_and]

theorem widen_of_x86 (h : cfg.arch = .x86) (l : Widths) : widen cfg l = false := by
  rw [widen, h]
  exact Bool.and_false _

theorem widen_of_ignore (h : cfg.rexwPolicy = .ignore) (l : Widths) : widen cfg l = false := by
  rw [widen, h]
  simp

/-- The policy acts through `widen` alone. -/
theorem measure_policy_of_widen (p : RexwPolicy) (hpre : ∀ b ∈ pre, isPrefixByte cfg b = true)
    (hop : isPrefixByte cfg op = false)
    (hwiden : widen { cfg with rexwPolicy := p } (pre.foldl (consumePrefix cfg) (startWidths cfg.arch))
      = widen cfg (pre.foldl (consumePrefix cfg) (startWidths cfg.arch))) (rest : List Byte) :
    measure { cfg with rexwPolicy := p } (pre ++ op :: rest) = measure cfg (pre ++ op :: rest) := by
  have hsame := sameWidths_of_widen (cfg := cfg) (cfg' := { cfg with rexwPolicy := p }) rfl rfl hwiden rfl rfl rfl
  rw [measure_sameWidths hsame rfl hpre hpre hop (n := 0) rfl rest, withPrefixes_zero]

theorem measure_policy_of_rexw (p : RexwPolicy) (hpre : ∀ b ∈ pre, isPrefixByte cfg b = true)
    (hop : isPrefixByte cfg op = false) (hrexw : (pre.foldl (consumePrefix cfg) (startWidths cfg.arch)).rexw = false)
    (rest : List Byte) : measure { cfg with rexwPolicy := p } (pre ++ op :: rest) = measure cfg (pre ++ op :: rest) :=
  measure_policy_of_widen p hpre hop ((widen_of_rexw hrexw).trans (widen_of_rexw hrexw).symm) rest

end

/-- Settles O14: with X86 or without a REX byte nothing is widened, whatever the policy. -/
theorem rexwPolicyActsThroughRexOnly : Obligations.RexwPolicyActsThroughRexOnly := by
  intro cfg p b hcond
  rcases split_run cfg b with hall | ⟨pre, op, rest, rfl, hpre, hop⟩
  · rw [measure_all_prefix cfg b hall]
    exact measure_all_prefix _ b hall
  rcases hcond with harch | hnone
  · have hp := widen_of_x86 (cfg := { cfg with rexwPolicy := p }) harch
    exact measure_policy_of_widen p hpre hop ((hp _).trans (widen_of_x86 harch _).symm) rest
  · have hlegacy : ∀ c ∈ pre, tableHas cfg.tables.isLegacyPrefix c = true := by
      intro c hc
      have hrex : tableHas cfg.tables.isRex c = false := hnone c (List.mem_append_left _ hc)
      simpa [isPrefixByte, hrex] using hpre c hc
    exact measure_policy_of_rexw p hpre hop (foldl_rexw_of_legacy hlegacy rfl) rest

/-- The policy plays no part where the dispatch finds the same under both. -/
theorem measure_policy_of_dispatch {cfg : Config} {pre : List Byte} {op : Byte} {rest : List Byte} (p : RexwPolicy)
    (hpre : ∀ b ∈ pre, isPrefixByte cfg b = true) (hop : isPrefixByte cfg op = false)
    (hd : ∀ l, dispatchOpcode { cfg with rexwPolicy := p } l op rest = dispatchOpcode cfg l op rest) :
    measure { cfg with rexwPolicy := p } (pre ++ op :: rest) = measure cfg (pre ++ op :: rest) := by
  have hafter (l : Widths) : afterPrefixes { cfg with rexwPolicy := p } l op rest = afterPrefixes cfg l op rest := by
    rw [afterPrefixes, hd, ← afterPrefixes]
  rw [measure_run cfg pre op rest hpre hop, ← hafter]
  exact measure_run { cfg with rexwPolicy := p } pre op rest hpre hop

/-- R152: in the three-byte maps the dispatch looks at no width. -/
theorem dispatchOpcode_three_policy (cfg : Config) (p : RexwPolicy) (l : Widths) {op : Byte}
    (hop : op = 0x38#8 ∨ op = 0x3A#8) (rest : List Byte) :
    dispatchOpcode { cfg with rexwPolicy := p } l 0x0F#8 (op :: rest) = dispatchOpcode cfg l 0x0F#8 (op :: rest) := by
  rcases hop with rfl | rfl <;> rfl

/-! What REX.W widens on X64 (R147, R154, R157 to R163). -/

/-- R147: a run of prefixes widens under WIDEN where a REX byte with W set is its last. -/
def widenedBy (cfg : Config) (pre : List Byte) : Bool := decide (cfg.rexwPolicy = .widen) && lastRexW cfg pre

/-- R158: the width of a default-width immediate after a run of prefixes on X64. -/
def defaultWidthAfter (cfg : Config) (pre : List Byte) : Nat :=
  if widenedBy cfg pre then 4 else if cfg.tables.opsize ∈ pre then 2 else 4

/-- R159: the width of a full-width immediate after a run of prefixes on X64. -/
def fullWidthAfter (cfg : Config) (pre : List Byte) : Nat :=
  if widenedBy cfg pre then 8 else if cfg.tables.opsize ∈ pre then 2 else 4

theorem defaultWidthAfter_le (cfg : Config) (pre : List Byte) : defaultWidthAfter cfg pre ≤ 4 := by
  unfold defaultWidthAfter
  split_ifs <;> omega

theorem fullWidthAfter_le (cfg : Config) (pre : List Byte) : fullWidthAfter cfg pre ≤ 8 := by
  unfold fullWidthAfter
  split_ifs <;> omega

theorem tableImmediate_le_widened (cfg : Config) {w f a : Nat} (hw : w ≤ 4) (hf : f ≤ 8) (ha : a ≤ 8) (op m : Byte) :
    tableImmediate cfg w f a op m ≤ 27 := by
  calc tableImmediate cfg w f a op m ≤ 1 + 4 + 8 + 2 + 8 + 4 := by
        unfold tableImmediate
        gcongr <;> split_ifs <;> omega
    _ = 27 := rfl

theorem tableImmediateTwo_le (cfg : Config) {w : Nat} (hw : w ≤ 4) (op : Byte) : tableImmediateTwo cfg w op ≤ 7 := by
  unfold tableImmediateTwo
  split_ifs <;> omega

theorem widen_x64 {cfg : Config} (harch : cfg.arch = .x64) (l : Widths) :
    widen cfg l = (decide (cfg.rexwPolicy = .widen) && l.rexw) := by
  rw [widen, harch, Bool.and_comm]
  rfl

section
variable {cfg : Config} {pre : List Byte} {op m x : Byte} {tail : List Byte}
variable (ht : tablesStructural cfg.tables = true) (hpre : ∀ b ∈ pre, isPrefixByte cfg b = true)
include ht hpre

/-- R145, R147: without the REX bytes of the run the widths are the same under IGNORE. -/
theorem sameWidths_without_rex (hpolicy : cfg.rexwPolicy = .ignore) :
    SameWidths cfg cfg
      ((pre.filter fun b => !tableHas cfg.tables.isRex b).foldl (consumePrefix cfg) (startWidths cfg.arch))
      (pre.foldl (consumePrefix cfg) (startWidths cfg.arch)) := by
  obtain ⟨hopsize, hadsize, -, hdisjoint⟩ := prefixes_disjoint ht
  have hkept (b : Byte) (hb : tableHas cfg.tables.isLegacyPrefix b = true) :
      b ∈ pre.filter (fun b => !tableHas cfg.tables.isRex b) ↔ b ∈ pre := by
    simp [hdisjoint b hb]
  rw [widths_after_prefixes ht pre hpre,
    widths_after_prefixes ht _ fun b hb => hpre b (List.mem_of_mem_filter hb)]
  refine sameWidths_of_widen rfl rfl ((widen_of_ignore hpolicy _).trans (widen_of_ignore hpolicy _).symm) ?_ ?_ ?_ <;>
    simp only [hkept _ hopsize, hkept _ hadsize]

theorem measure_without_rex (hpolicy : cfg.rexwPolicy = .ignore) (hop : isPrefixByte cfg op = false) :
    measure cfg (pre ++ op :: tail)
      = withPrefixes (pre.countP (tableHas cfg.tables.isRex))
          (measure cfg (pre.filter (fun b => !tableHas cfg.tables.isRex b) ++ op :: tail)) := by
  refine measure_sameWidths (sameWidths_without_rex ht hpre hpolicy) rfl
    (fun b hb => hpre b (List.mem_of_mem_filter hb)) hpre hop ?_ tail
  rw [← List.countP_eq_length_filter, Nat.add_comm]
  simpa using List.length_eq_countP_add_countP (tableHas cfg.tables.isRex) (l := pre)

theorem measure_policy_of_lastRexW (p : RexwPolicy) (hlast : lastRexW cfg pre = false)
    (hop : isPrefixByte cfg op = false) :
    measure { cfg with rexwPolicy := p } (pre ++ op :: tail) = measure cfg (pre ++ op :: tail) := by
  refine measure_policy_of_rexw p hpre hop ?_ tail
  rw [widths_after_prefixes ht pre hpre, hlast]

variable (harch : cfg.arch = .x64)
include harch

theorem widths_x64 {l : Widths} (hl : pre.foldl (consumePrefix cfg) (startWidths cfg.arch) = l) :
    l.adisp = 4 ∧ l.amoffs = absoluteWidth .x64 (decide (cfg.tables.adsize ∈ pre))
      ∧ defaultWidth cfg l = defaultWidthAfter cfg pre ∧ fullWidth cfg l = fullWidthAfter cfg pre := by
  rw [widths_after_prefixes ht pre hpre] at hl
  subst hl
  simp [defaultWidth, fullWidth, defaultWidthAfter, fullWidthAfter, widenedBy, widen_x64 harch, displacementWidth,
    harch]

theorem measure_total_one_x64 (hp : isPrefixByte cfg op = false) (hop : op ≠ 0x0F#8) (hlen : 40 ≤ tail.length) :
    (measure cfg (pre ++ op :: m :: x :: tail)).total
      = pre.length + 1 + (if tableHas cfg.tables.op1Modrm op then 1 + addressingTail 4 m x else 0)
        + tableImmediate cfg (defaultWidthAfter cfg pre) (fullWidthAfter cfg pre)
            (absoluteWidth .x64 (decide (cfg.tables.adsize ∈ pre))) op m := by
  obtain ⟨hadisp, hamoffs, hdefault, hfull⟩ := widths_x64 ht hpre harch rfl
  have haddr := addressingTail_le (Nat.le_refl 4) m x
  have himm := tableImmediate_le_widened cfg (defaultWidthAfter_le cfg pre) (fullWidthAfter_le cfg pre)
    (absoluteWidth_le .x64 (decide (cfg.tables.adsize ∈ pre))) op m
  rw [Nat.add_assoc]
  refine measure_total_one hpre rfl hp hop (by rw [hadisp, hamoffs, hdefault, hfull]) ?_
  split <;> omega

theorem measure_total_two_x64 (h38 : op ≠ 0x38#8) (h3A : op ≠ 0x3A#8) (hv : tableHas cfg.tables.op2Invalid op = false)
    (hlen : 40 ≤ tail.length) :
    (measure cfg (pre ++ 0x0F#8 :: op :: m :: x :: tail)).total
      = pre.length + 2 + (if tableHas cfg.tables.op2Modrm op then 1 + addressingTail 4 m x else 0)
        + tableImmediateTwo cfg (defaultWidthAfter cfg pre) op := by
  obtain ⟨hadisp, -, hdefault, -⟩ := widths_x64 ht hpre harch rfl
  have haddr := addressingTail_le (Nat.le_refl 4) m x
  have himm := tableImmediateTwo_le cfg (defaultWidthAfter_le cfg pre) op
  rw [Nat.add_assoc]
  refine measure_total_two hpre rfl ht h38 h3A hv (by rw [hadisp, hdefault]) ?_
  split <;> omega

end

/-- Settles O15: the two lengths from the widths after the run, the last prefix from what it leaves in REX.W, the
three-byte maps from their dispatch, and IGNORE from the widths without the REX bytes. -/
theorem rexwWidensWhenLastPrefix : Obligations.RexwWidensWhenLastPrefix :=
  fun cfg _ _ _ _ _ harch ht hpre =>
    ⟨measure_total_one_x64 ht hpre harch, measure_total_two_x64 ht hpre harch, measure_policy_of_lastRexW ht hpre,
      fun p hop => measure_policy_of_dispatch p hpre (escape_not_prefix ht)
        fun l => dispatchOpcode_three_policy cfg p l hop _,
      measure_without_rex ht hpre⟩

end Sys2Proof.Proofs.Decode
end

section
/-! The statements of 40_decode.md about runs of prefixes before a one-byte opcode outside the group pair: their number,
the two overrides, and the REX bytes of X64. -/

namespace Sys2Proof.Proofs.Decode

open Sys2Proof.Machine Sys2Proof.Proofs.Encoding

/-! An opcode without an addressing byte. -/

section
variable {cfg : Config} {pre : List Byte} {l : Widths} {op : Byte} {imm : Nat} {rest : List Byte}
variable (hpre : ∀ b ∈ pre, isPrefixByte cfg b = true)
variable (hl : pre.foldl (consumePrefix cfg) (startWidths cfg.arch) = l)
variable (h : PlainOpcode cfg l op false imm)
include hpre hl h

theorem measure_of_bare_eq :
    measure cfg (pre ++ op :: rest)
      = if imm ≤ rest.length then
          { total := pre.length + 1 + imm, opcodeBytes := 1, argumentBytes := imm, prefixBytes := pre.length }
        else failedBreakdown := by
  simpa only [Nat.zero_add] using measure_of_plain hpre hl h 0 0 (rest := rest) rfl

theorem measure_of_bare (hfit : imm ≤ rest.length) :
    measure cfg (pre ++ op :: rest)
      = { total := pre.length + 1 + imm, opcodeBytes := 1, argumentBytes := imm, prefixBytes := pre.length } :=
  (measure_of_bare_eq hpre hl h).trans (if_pos hfit)

theorem measure_of_bare_cut (hcut : rest.length < imm) : measure cfg (pre ++ op :: rest) = failedBreakdown :=
  (measure_of_bare_eq hpre hl h).trans (if_neg (Nat.not_le.mpr hcut))

end

/-! The number of prefixes (R81, R172). -/

theorem isPrefixByte_replicate {cfg : Config} {b : Byte} (hb : isPrefixByte cfg b = true) (n : Nat) :
    ∀ c ∈ List.replicate n b, isPrefixByte cfg c = true :=
  fun _ hc => List.eq_of_mem_replicate hc ▸ hb

section
variable {cfg : Config} (ht : cfg.tables = defaultTables)
include ht

theorem isPrefixByte_of_legacy_default {b : Byte} (hb : tableHas defaultTables.isLegacyPrefix b = true) :
    isPrefixByte cfg b = true :=
  (isPrefixByte_default ht b).mpr (.inl hb)

/-- A byte that is in neither prefix table is no prefix on either architecture. -/
theorem notAPrefix_default {op : Byte} (hlegacy : tableHas defaultTables.isLegacyPrefix op = false)
    (hrex : tableHas defaultTables.isRex op = false) : notAPrefix cfg.arch cfg.tables op = true := by
  rw [notAPrefix, ht, hlegacy, hrex, Bool.and_false]
  rfl

/-- The bytes 90 and C3 have no operands. -/
theorem plainOpcode_bare_default (l : Widths) {op : Byte} (hop : op = 0x90#8 ∨ op = 0xC3#8) :
    PlainOpcode cfg l op false 0 := by
  rcases hop with rfl | rfl <;>
    exact plainOpcode_of_none (notAPrefix_default ht (by decide) (by decide)) (by decide) (by rw [ht]; decide)
      (by rw [ht]; decide)

end

/-- Settles O9: the run is counted whatever its length, and C3 has no operands. -/
theorem prefixRunOfAnyLengthDecodes : Obligations.PrefixRunOfAnyLengthDecodes := by
  intro cfg n ht
  have hF0 : isPrefixByte cfg 0xF0#8 = true := isPrefixByte_of_legacy_default ht (by decide)
  simpa using measure_of_bare (isPrefixByte_replicate hF0 n) rfl (plainOpcode_bare_default ht _ (.inr rfl))
    (rest := []) (Nat.le_refl 0)

/-! The operand-size override (R143, R158). -/

section
variable {cfg : Config} (ht : cfg.tables = defaultTables)
include ht

/-- R116: E8 has a default-width immediate and nothing else. -/
theorem plainOpcode_E8_default (l : Widths) : PlainOpcode cfg l 0xE8#8 false (defaultWidth cfg l) := by
  have himm (w f a : Nat) : tableImmediate cfg w f a 0xE8#8 0 = w := by
    simp +decide [tableImmediate, ht]
  rw [← himm (defaultWidth cfg l) (fullWidth cfg l) l.amoffs]
  exact plainOpcode_of_noPair (notAPrefix_default ht (by decide) (by decide)) (by decide) (by rw [ht]; decide)
    (by rw [ht]; decide) (by rw [ht]; decide)

theorem opsize_run_prefixes (n : Nat) : ∀ b ∈ List.replicate n 0x66#8, isPrefixByte cfg b = true :=
  isPrefixByte_replicate (isPrefixByte_of_legacy_default ht (by decide)) n

theorem defaultWidth_opsize_run (n : Nat) :
    defaultWidth cfg ((List.replicate (n + 1) 0x66#8).foldl (consumePrefix cfg) (startWidths cfg.arch)) = 2 := by
  have hlegacy : ∀ b ∈ List.replicate (n + 1) 0x66#8, tableHas cfg.tables.isLegacyPrefix b = true := by
    intro b hb
    rw [List.eq_of_mem_replicate hb, ht]
    decide
  have hopsize : cfg.tables.opsize ∈ List.replicate (n + 1) 0x66#8 := by
    rw [ht]
    exact List.mem_replicate.mpr ⟨Nat.succ_ne_zero n, rfl⟩
  rw [defaultWidth, widen_of_rexw (foldl_rexw_of_legacy hlegacy rfl),
    widths_after_prefixes (ht ▸ tablesStructural_default) _ (opsize_run_prefixes ht _)]
  exact if_pos hopsize

end

/-- Settles O11: the width of E8's immediate is 4 at the start and 2 after the run. -/
theorem operandSizeOverrideActsOnce : Obligations.OperandSizeOverrideActsOnce := by
  intro cfg n tail ht
  have hE8 := plainOpcode_E8_default ht (startWidths cfg.arch)
  have hE8' := plainOpcode_E8_default ht
    ((List.replicate (n + 1) 0x66#8).foldl (consumePrefix cfg) (startWidths cfg.arch))
  rw [defaultWidth_start] at hE8
  rw [defaultWidth_opsize_run ht] at hE8'
  refine ⟨fun hlen => ?_, fun hlen => ?_, fun hlen => ?_⟩
  · exact measure_of_bare (pre := []) nofun rfl hE8 hlen
  · have hm := measure_of_bare (opsize_run_prefixes ht (n + 1)) rfl hE8' hlen
    rwa [List.length_replicate] at hm
  · exact measure_of_bare_cut (opsize_run_prefixes ht (n + 1)) rfl hE8' hlen

/-! The address-size override (R141, R144, R146, R161, R169). -/

/-- R117: the absolute forms of T_default. -/
theorem absoluteForms_default :
    ∀ op : Byte, 0xA0#8 ≤ op → op ≤ 0xA3#8 →
      tableHas defaultTables.isLegacyPrefix op = false ∧ tableHas defaultTables.isRex op = false ∧ op ≠ 0x0F#8
        ∧ tableHas defaultTables.op1Modrm op = false ∧ carriesOnlyMoffs defaultTables op = true := by decide

theorem notAPrefix_of_isPrefixByte {cfg : Config} {op : Byte} (h : isPrefixByte cfg op = false) :
    notAPrefix cfg.arch cfg.tables op = true := by
  simpa [notAPrefix, isPrefixByte, imp_iff_not_or] using h

section
variable {cfg : Config} {pre : List Byte} {op : Byte}
variable (ht : tablesStructural cfg.tables = true) (hpre : ∀ b ∈ pre, isPrefixByte cfg b = true)
variable (hp : isPrefixByte cfg op = false) (hop : op ≠ 0x0F#8)
include ht hpre hp hop

theorem plainOpcode_absolute (hmodrm : tableHas cfg.tables.op1Modrm op = false)
    (honly : carriesOnlyMoffs cfg.tables op = true) :
    PlainOpcode cfg (pre.foldl (consumePrefix cfg) (startWidths cfg.arch)) op false
      (absoluteWidth cfg.arch (decide (cfg.tables.adsize ∈ pre))) := by
  have hamoffs : (pre.foldl (consumePrefix cfg) (startWidths cfg.arch)).amoffs
      = absoluteWidth cfg.arch (decide (cfg.tables.adsize ∈ pre)) := by rw [widths_after_prefixes ht pre hpre]
  exact hamoffs ▸ plainOpcode_of_moffs (notAPrefix_of_isPrefixByte hp) hop hmodrm honly

theorem measure_total_addressing (hmodrm : tableHas cfg.tables.op1Modrm op = true)
    (hnone : carriesNoImmediate cfg.tables op = true) (m x : Byte) {tail : List Byte} (hlen : 4 ≤ tail.length) :
    (measure cfg (pre ++ op :: m :: x :: tail)).total
      = pre.length + 2
        + addressingTail (displacementWidth cfg.arch (decide (cfg.tables.adsize ∈ pre))) m x := by
  have hwidth : displacementWidth cfg.arch (decide (cfg.tables.adsize ∈ pre)) ≤ 4 := by
    unfold displacementWidth
    split <;> omega
  have haddr := addressingTail_le hwidth m x
  have htotal := measure_total_one hpre (widths_after_prefixes ht pre hpre) (m := m) (x := x) (tail := tail) hp hop
    (by rw [if_pos hmodrm, tableImmediate_of_none hnone, Nat.add_zero]) (by simp only; omega)
  rw [htotal]
  simp only
  omega

end

/-- Settles O12: the widths after the run are those of the override, wherever it stands in it. -/
theorem addressSizeOverrideByArchitecture : Obligations.AddressSizeOverrideByArchitecture := by
  intro cfg pre op m x tail ht hpre
  refine ⟨fun hdefault hlo hhi => ?_, fun hp hop => ⟨fun hmodrm honly => ?_, fun hmodrm hnone hlen =>
    measure_total_addressing ht hpre hp hop hmodrm hnone m x hlen⟩⟩
  · obtain ⟨hlegacy, hrex, hop, hmodrm, honly⟩ := absoluteForms_default op hlo hhi
    have hp := isPrefixByte_eq_false (notAPrefix_default hdefault hlegacy hrex)
    rw [← hdefault] at hmodrm honly
    exact ⟨hp, hop, hmodrm, honly⟩
  · have hplain := plainOpcode_absolute ht hpre hp hop hmodrm honly
    exact ⟨measure_of_bare hpre rfl hplain, measure_of_bare_cut hpre rfl hplain⟩

/-! The REX bytes (R145). -/

/-- R115 to R117: on X86 the bytes 40 to 4F are opcodes without operands. -/
theorem rexBytes_default :
    ∀ b : Byte, 0x40#8 ≤ b → b ≤ 0x4F#8 →
      tableHas defaultTables.isLegacyPrefix b = false ∧ b ≠ 0x0F#8 ∧ tableHas defaultTables.op1Modrm b = false
        ∧ carriesNoImmediate defaultTables b = true := by decide

theorem plainOpcode_rexByte_x86 {cfg : Config} (ht : cfg.tables = defaultTables) (harch : cfg.arch = .x86) (l : Widths)
    {b : Byte} (hlo : 0x40#8 ≤ b) (hhi : b ≤ 0x4F#8) : PlainOpcode cfg l b false 0 := by
  obtain ⟨hlegacy, hop, hmodrm, hnone⟩ := rexBytes_default b hlo hhi
  rw [← ht] at hlegacy hmodrm hnone
  have hp : notAPrefix cfg.arch cfg.tables b = true := by simp [notAPrefix, hlegacy, harch]
  exact plainOpcode_of_none hp hop hmodrm hnone

/-- Settles O13: the REX bytes are a run of prefixes on X64; on X86 the first of them is an opcode. -/
theorem rexBytesArePrefixesOnX64Only : Obligations.RexBytesArePrefixesOnX64Only := by
  intro cfg rex b tail ht hrex hlo hhi
  constructor
  case left =>
    intro harch
    have hpre : ∀ r ∈ rex, isPrefixByte cfg r = true :=
      fun r hr => (isPrefixByte_default ht r).mpr (.inr ⟨harch, hrex r hr⟩)
    exact measure_of_bare hpre rfl (plainOpcode_bare_default ht _ (.inl rfl)) (Nat.zero_le _)
  case right =>
    intro harch
    exact measure_of_bare (pre := []) nofun rfl (plainOpcode_rexByte_x86 ht harch _ hlo hhi) (Nat.zero_le _)

end Sys2Proof.Proofs.Decode
end

section
/-! The statements of 40_decode.md about the escapes and the invalid opcodes, and the pull on the rows of the opcode
table that are no whole opcode: prefixes, escapes and invalid rows. -/

namespace Sys2Proof.Proofs.Decode

open Sys2Proof.Machine Sys2Proof.Proofs.Encoding

/-! The three-byte maps (R150 to R152). -/

/-- R165: no extension byte and no displacement. -/
theorem addressing_registerDirect {m : Byte} (hm : modeField m = 3) (l : Widths) (rest : List Byte) :
    addressing l true (m :: rest) = some (1, 0) := by
  simp [addressing, displacement, hm]

section
variable {cfg : Config} (ht : tablesStructural cfg.tables = true)
include ht

theorem measure_three_registerDirect (imm8 : Bool) {op m : Byte}
    (hv : tableHas (threeInvalid cfg.tables imm8) op = false) (hm : modeField m = 3) {tail : List Byte}
    (hlen : (if imm8 then 1 else 0) ≤ tail.length) :
    measure cfg (0x0F#8 :: threeEscape imm8 :: op :: m :: tail)
      = { total := if imm8 then 5 else 4, opcodeBytes := 3
          argumentBytes := if imm8 then 2 else 1, prefixBytes := 0 } := by
  have hmeasure := measure_of_dispatch (pre := []) nofun (escape_not_prefix ht) rfl
    (dispatchOpcode_three (rest := m :: tail) imm8 hv) (addressing_registerDirect hm _ _)
  rw [if_pos (by simp only [List.length_cons]; omega)] at hmeasure
  cases imm8 <;> exact hmeasure

/-- R151: the escape 0F at the end of the slice. -/
theorem measure_escape_alone : measure cfg [0x0F#8] = failedBreakdown :=
  measure_of_dispatch_none (pre := []) nofun (escape_not_prefix ht) rfl

/-- R151: both escapes at the end of the slice. -/
theorem measure_escapes_alone (imm8 : Bool) : measure cfg [0x0F#8, threeEscape imm8] = failedBreakdown := by
  refine measure_of_dispatch_none (pre := []) nofun (escape_not_prefix ht) ?_
  cases imm8 <;> rfl

/-- A three-byte opcode at the end of the slice: it is invalid, or an instruction cut before its addressing byte. -/
theorem measure_three_alone (imm8 : Bool) (op : Byte) :
    measure cfg [0x0F#8, threeEscape imm8, op] = failedBreakdown := by
  cases hv : tableHas (threeInvalid cfg.tables imm8) op with
  | true =>
    exact measure_of_dispatch_none (pre := []) nofun (escape_not_prefix ht) (dispatchOpcode_three_invalid imm8 hv)
  | false =>
    have hwhole := measure_three_registerDirect ht imm8 hv (m := 0xC0#8) rfl (tail := [0x00#8])
      (by cases imm8 <;> decide)
    refine cutInstructionFails cfg [0x0F#8, threeEscape imm8, op, 0xC0#8, 0x00#8] 3 ht ?_
    rw [hwhole]
    cases imm8 <;> decide

end

/-- Settles O21: the two maps differ in their table and in the immediate byte of 0F 3A. -/
theorem threeByteOpcodesTakeAnAddressingByte : Obligations.ThreeByteOpcodesTakeAnAddressingByte :=
  fun _ op _ _ ht hm =>
    ⟨fun hv => measure_three_registerDirect ht false hv hm (Nat.zero_le _),
      fun hv hlen => measure_three_registerDirect ht true hv hm hlen,
      measure_escape_alone ht, measure_escapes_alone ht false, measure_escapes_alone ht true,
      measure_three_alone ht false op, measure_three_alone ht true op⟩

/-! The pull on a row that fails (R225, R226). -/

theorem exec_row_exhausts {i : Instr} {s : State} (hc : isCommand i = false) (hs : Pullable s)
    (hlead : encode i <+: remainingBytes s) (hfail : measure s.cfg (remainingBytes s) = failedBreakdown) :
    exec i s = .next (exhaustedState s) := by
  obtain ⟨hfault, hexh, hcur, hend⟩ := hs
  calc exec i s = sweep (encode i) s := exec_row i s hc
    _ = withRemaining s fun remaining => pullText (textFrom (encode i) remaining) s :=
      unlessExhausted_runs hfault hexh _
    _ = pullText (textFrom (encode i) (remainingBytes s)) s := withRemaining_inside hcur hend _
    _ = pullText (remainingBytes s) s := by rw [textFrom_of_prefix hlead]
    _ = .next (exhaustedState s) := by rw [pullText_eq, hfail]; rfl

/-! The bytes of the rows that are no whole opcode: the rows' fields are the entries of T_default. -/

section
variable {i : Instr}

theorem prefixRow_byte {cfg : Config} (ht : cfg.tables = defaultTables)
    (h : rowClass i = .legacyPrefix ∨ (rowClass i = .rexPrefix ∧ cfg.arch = .x64)) :
    ∃ b, encode i = [b] ∧ isPrefixByte cfg b = true := by
  have hagrees := rowsAgreeWithTheDefaultTables i
  rcases h with h | ⟨h, harch⟩ <;> rw [h] at hagrees
  · match encode i, hagrees with
    | [b], hagrees => exact ⟨b, rfl, isPrefixByte_of_legacy_default ht hagrees⟩
  · match encode i, hagrees with
    | [b], hagrees =>
      obtain ⟨hrex, -⟩ := Bool.and_eq_true_iff.mp hagrees
      exact ⟨b, rfl, (isPrefixByte_default ht b).mpr (.inr ⟨harch, (tableHas_defaultIsRex b).mp hrex⟩)⟩

theorem escapeTwoRow_bytes (h : rowClass i = .escapeTwo) : encode i = [0x0F#8] := by
  have hagrees := rowsAgreeWithTheDefaultTables i
  rw [h] at hagrees
  match encode i, hagrees with
  | [b], hagrees =>
    simp only [rowAgrees, Bool.and_eq_true, beq_iff_eq] at hagrees
    obtain ⟨⟨rfl, -⟩, -⟩ := hagrees
    rfl

theorem escapeThreeRow_bytes {imm8 : Bool} (h : rowClass i = .escapeThree imm8) :
    encode i = [0x0F#8, threeEscape imm8] := by
  have hagrees := rowsAgreeWithTheDefaultTables i
  rw [h] at hagrees
  match encode i, hagrees with
  | [e, b], hagrees =>
    simp only [rowAgrees, Bool.and_eq_true, beq_iff_eq] at hagrees
    obtain ⟨⟨rfl, rfl⟩, -⟩ := hagrees
    rfl

/-- An invalid row is a two-byte opcode or one of a three-byte map, invalid there. -/
theorem invalidRow_bytes (h : rowClass i = .invalid) :
    (∃ op, encode i = [0x0F#8, op] ∧ tableHas defaultTables.op2Invalid op = true)
      ∨ ∃ imm8 op, encode i = [0x0F#8, threeEscape imm8, op]
          ∧ tableHas (threeInvalid defaultTables imm8) op = true := by
  have hagrees := rowsAgreeWithTheDefaultTables i
  rw [h] at hagrees
  match encode i, hagrees with
  | [e, op], hagrees =>
    simp only [rowAgrees, Bool.and_eq_true, beq_iff_eq] at hagrees
    obtain ⟨rfl, hinvalid⟩ := hagrees
    exact .inl ⟨op, rfl, hinvalid⟩
  | [e, e2, op], hagrees =>
    simp only [rowAgrees, Bool.and_eq_true, Bool.or_eq_true, beq_iff_eq] at hagrees
    obtain ⟨rfl, ⟨rfl, hinvalid⟩ | ⟨rfl, hinvalid⟩⟩ := hagrees
    · exact .inr ⟨false, op, rfl, hinvalid⟩
    · exact .inr ⟨true, op, rfl, hinvalid⟩

end

theorem measure_invalidRow {cfg : Config} {i : Instr} (ht : cfg.tables = defaultTables) (h : rowClass i = .invalid)
    (rest : List Byte) : measure cfg (encode i ++ rest) = failedBreakdown := by
  have hescape : isPrefixByte cfg 0x0F#8 = false := escape_not_prefix (ht ▸ tablesStructural_default)
  rcases invalidRow_bytes h with ⟨op, henc, hinvalid⟩ | ⟨imm8, op, henc, hinvalid⟩ <;> rw [henc]
  · have h38 : op ≠ 0x38#8 := by rintro rfl; revert hinvalid; decide
    have h3A : op ≠ 0x3A#8 := by rintro rfl; revert hinvalid; decide
    rw [← ht] at hinvalid
    exact measure_of_dispatch_none (pre := []) nofun hescape (dispatchOpcode_two_invalid h38 h3A hinvalid)
  · rw [← ht] at hinvalid
    exact measure_of_dispatch_none (pre := []) nofun hescape (dispatchOpcode_three_invalid imm8 hinvalid)

/-- Settles O32: the bytes of the row fail whatever follows them. -/
theorem invalidRowsEndTheSweep : Obligations.InvalidRowsEndTheSweep := by
  intro i s hclass ⟨htables, _⟩ hpull hlead
  refine exec_row_exhausts (isCommand_of_rowClass_ne (by simp [hclass])) hpull hlead ?_
  obtain ⟨rest, hrest⟩ := hlead
  rw [← hrest]
  exact measure_invalidRow htables hclass rest

/-! The pull on prefix rows and escape rows. -/

/-- R119, R120: 0F A2 has no operands. -/
theorem measure_total_0F_A2 {cfg : Config} (ht : cfg.tables = defaultTables) (tail : List Byte) :
    (measure cfg (0x0F#8 :: 0xA2#8 :: tail)).total = 2 := by
  have hd : dispatchOpcode cfg (startWidths cfg.arch) 0x0F#8 (0xA2#8 :: tail)
      = some { count := 2, modrm := false, imm := 0, rest := tail } := by
    rw [dispatchOpcode_two (by decide) (by decide) (by rw [ht]; decide)]
    simp +decide [ht, tableImmediateTwo]
  have hmeasure := measure_of_dispatch (pre := []) nofun (escape_not_prefix (ht ▸ tablesStructural_default)) rfl hd
    (c := 0) (d := 0) rfl
  rw [if_pos (by simp only [List.length_cons]; omega)] at hmeasure
  exact congrArg Breakdown.total hmeasure

section
variable {i : Instr} {s : State} (hruns : RunsDefault s) (hpull : Pullable s)
include hruns hpull

theorem exec_prefix_yields (hclass : rowClass i = .legacyPrefix ∨ (rowClass i = .rexPrefix ∧ s.cfg.arch = .x64))
    {tail : List Byte} (hrem : remainingBytes s = encode i ++ 0x90#8 :: tail) (hfits : VaFits 2 s) :
    exec i s = .next (yieldedState 2 s) := by
  obtain ⟨b, henc, hb⟩ := prefixRow_byte hruns.1 hclass
  have hc : isCommand i = false := by
    rcases hclass with h | ⟨h, -⟩ <;> exact isCommand_of_rowClass_ne (by simp [h])
  refine exec_row_yields hc hpull ⟨_, hrem.symm⟩ ?_ (by decide) hfits
  have hmeasure := measure_of_bare (List.forall_mem_singleton.mpr hb) rfl
    (plainOpcode_bare_default hruns.1 _ (.inl rfl)) (Nat.zero_le tail.length)
  rw [hrem, henc, hmeasure]
  rfl

theorem exec_escapeTwo_yields (hclass : rowClass i = .escapeTwo) {tail : List Byte}
    (hrem : remainingBytes s = encode i ++ 0xA2#8 :: tail) (hfits : VaFits 2 s) :
    exec i s = .next (yieldedState 2 s) := by
  refine exec_row_yields (isCommand_of_rowClass_ne (by simp [hclass])) hpull ⟨_, hrem.symm⟩ ?_ (by decide) hfits
  rw [hrem, escapeTwoRow_bytes hclass]
  exact measure_total_0F_A2 hruns.1 tail

theorem exec_escapeThree_yields {imm8 : Bool} (hclass : rowClass i = .escapeThree imm8) {op m : Byte} {tail : List Byte}
    (hrem : remainingBytes s = encode i ++ op :: m :: tail)
    (hv : tableHas (threeInvalid defaultTables imm8) op = false) (hm : modeField m = 3)
    (hlen : (if imm8 then 1 else 0) ≤ tail.length) (hfits : VaFits (if imm8 then 5 else 4) s) :
    exec i s = .next (yieldedState (if imm8 then 5 else 4) s) := by
  refine exec_row_yields (isCommand_of_rowClass_ne (by simp [hclass])) hpull ⟨_, hrem.symm⟩ ?_
    (by split <;> decide) hfits
  obtain ⟨htables, -⟩ := hruns
  rw [← htables] at hv
  have hmeasure := measure_three_registerDirect (htables ▸ tablesStructural_default) imm8 hv hm hlen
  rw [hrem, escapeThreeRow_bytes hclass]
  exact congrArg Breakdown.total hmeasure

/-- R151: an escape with no byte after it. -/
theorem exec_escape_exhausts
    (hclass : rowClass i = .escapeTwo ∨ rowClass i = .escapeThree false ∨ rowClass i = .escapeThree true)
    (hrem : remainingBytes s = encode i) : exec i s = .next (exhaustedState s) := by
  have ht : tablesStructural s.cfg.tables = true := hruns.1 ▸ tablesStructural_default
  have hc : isCommand i = false := by
    rcases hclass with h | h | h <;> exact isCommand_of_rowClass_ne (by simp [h])
  refine exec_row_exhausts hc hpull ⟨[], by rw [hrem, List.append_nil]⟩ ?_
  rw [hrem]
  rcases hclass with h | h | h
  · rw [escapeTwoRow_bytes h, measure_escape_alone ht]
  · rw [escapeThreeRow_bytes h, measure_escapes_alone ht false]
  · rw [escapeThreeRow_bytes h, measure_escapes_alone ht true]

end

/-- Settles O33: each continuation is measured from the bytes of its row. -/
theorem prefixAndEscapeRowsGoOn : Obligations.PrefixAndEscapeRowsGoOn := by
  intro i s tail hruns hpull
  exact ⟨fun hclass => exec_prefix_yields hruns hpull hclass, fun hclass => exec_escapeTwo_yields hruns hpull hclass,
    fun hclass hrem hfits =>
      exec_escapeThree_yields hruns hpull hclass hrem (by decide) rfl (Nat.zero_le _) hfits,
    fun hclass hrem hfits =>
      exec_escapeThree_yields hruns hpull hclass hrem (by decide) rfl (Nat.le_add_left 1 _) hfits,
    exec_escape_exhausts hruns hpull⟩

end Sys2Proof.Proofs.Decode
end

section
/-! The statements of 41_view.md about the typed accesses: a read answers the little-endian value of its bytes, a write
stores the bytes of its pattern, an access outside the view faults. Each instruction is the shared access with its own
width and shape. -/

namespace Sys2Proof.Proofs.Views

open Sys2Proof.Machine Host

/-! The value of the bytes read (R54, R12). -/

theorem slice_succ (m : Memory) (addr w : Nat) : m.slice addr (w + 1) = m.byteAt addr :: m.slice (addr + 1) w := by
  simp [Memory.slice, List.range_succ_eq_map, Nat.add_comm 1, Nat.add_assoc]

/-- R54: byte `k` counts `256^k`. -/
theorem read_eq_sum (m : Memory) (addr w : Nat) :
    m.read addr w = ((List.range w).map fun k => 256 ^ k * (m.byteAt (addr + k)).toNat).sum := by
  induction w generalizing addr with
  | zero => rfl
  | succ w ih =>
    have hshift (k : Nat) : 256 ^ (k + 1) * (m.byteAt (addr + (k + 1))).toNat
        = 256 * (256 ^ k * (m.byteAt (addr + 1 + k)).toNat) := by
      rw [Nat.pow_succ', Nat.mul_assoc, Nat.add_right_comm addr 1 k, Nat.add_assoc addr k 1]
    calc m.read addr (w + 1)
        = (m.byteAt addr).toNat + 256 * m.read (addr + 1) w := by rw [Memory.read, slice_succ]; rfl
      _ = _ := by
        rw [ih, List.range_succ_eq_map, List.map_cons, List.sum_cons, List.map_map, ← List.sum_map_mul_left]
        simp [Function.comp_def, hshift]

/-- R12: `sext` of the pattern of a word is the word as a two's complement integer. -/
theorem signValue_toNat {w : Nat} (hw : 0 < w) (x : BitVec (8 * w)) : signValue w x.toNat = x.toInt := by
  have htop : 2 ^ (8 * w) = 2 * 2 ^ (8 * w - 1) := by rw [← Nat.pow_succ']; congr 1; omega
  have hiff : x.toNat < 2 ^ (8 * w - 1) ↔ 2 * x.toNat < 2 ^ (8 * w) := by omega
  simp [signValue, BitVec.toInt_eq_toNat_cond, hiff]

/-! The access inside the view (R186, R195). -/

section
variable {s t : State} {v : View} {off w : Nat}

theorem typedRead_eq_sum (hu : Usable v s) (hl : off + w ≤ v.len) (shape : Nat → Response) :
    typedRead w shape v off s
      = .next { s with
          resp := shape ((List.range w).map fun k => 256 ^ k * (s.mem.byteAt (v.base + off + k)).toNat).sum } := by
  rw [typedRead_inside hu hl, read_eq_sum]

/-- R204: the read after a write answers the pattern that was written, in the shape of the read. -/
theorem typedRead_after_write (hu : Usable v s) (hm : v.mutBit = true) (hl : off + w ≤ v.len) {i : Instr} {x : Nat}
    (hi : writeOperands i = some (v, off, w, x)) (hexec : exec i s = .next t) (shape : Nat → Response) :
    typedRead w shape v off t = .next { t with resp := shape x } := by
  rw [exec_of_writeOperands hi, typedWrite_inside hu hm hl] at hexec
  cases hexec
  obtain ⟨hf, hheld, hinside⟩ := hu
  have husable : Usable v { s with mem := s.mem.write (v.base + off) w x, resp := .done } :=
    ⟨hf, hheld, (write_size ..).symm ▸ hinside⟩
  rw [typedRead_inside husable hl, read_write, Nat.mod_eq_of_lt (writeOperands_lt hi)]

/-- R204 for a value of the interface: the unsigned read answers it as unsigned, the signed read as signed. -/
theorem reads_after_write (hu : Usable v s) (hm : v.mutBit = true) (hl : off + w ≤ v.len) (hw : 0 < w) {i : Instr}
    {x : BitVec (8 * w)} (hi : writeOperands i = some (v, off, w, x.toNat)) (hexec : exec i s = .next t) :
    typedRead w (signedShape w) v off t = .next { t with resp := .signed x.toInt }
      ∧ typedRead w unsignedShape v off t = .next { t with resp := .unsigned x.toNat } := by
  refine ⟨?signed, typedRead_after_write hu hm hl hi hexec _⟩
  case signed => rw [typedRead_after_write hu hm hl hi hexec, signedShape, signValue_toNat hw]

/-! The access outside the view (R183). -/

section
variable (hf : s.fault = false) (hv : v ∈ s.views) (hl : v.len < off + w)
include hf hv hl

theorem typedRead_outside (shape : Nat → Response) :
    typedRead w shape v off s = .next (faultedState .viewBounds (.viewBounds off w v.len) s) := by
  rw [typedRead, unlessLatched_clear hf, withView_held hv, withAccess_outside hl]

theorem typedWrite_outside (hm : v.mutBit = true) (x : Nat) :
    typedWrite w v off x s = .next (faultedState .viewBounds (.viewBounds off w v.len) s) := by
  rw [typedWrite, unlessLatched_clear hf, withView_held hv, if_pos hm, withAccess_outside hl]

end

/-! A write through the view of the last pull (R67, R209). -/

/-- R227, R228: a pull that yields leaves CUR just behind its view. -/
theorem iterNext_yields_view_before_cur {va : VaWord} (hexec : exec .iterNext s = .next t)
    (hresp : t.resp = .yielded v va) : v.base + v.len = t.cur := by
  cases exec_effect hexec with
  | yielded => cases hresp; rfl
  | answered r _ _ _ _ hy => exact absurd hresp (hy v va)
  | reset | refused | faulted | bound | skipped | exhausted | written => cases hresp

theorem write_keeps_position {i : Instr} {x : Nat} (hi : writeOperands i = some (v, off, w, x))
    (hexec : exec i s = .next t) : t.cur = s.cur ∧ t.endIdx = s.endIdx := by
  rw [exec_of_writeOperands hi] at hexec
  rcases typedWrite_next hexec with ⟨-, rfl⟩ | ⟨-, -, ⟨-, rfl⟩ | ⟨-, -, rfl⟩ | ⟨-, -, -, rfl⟩⟩ <;> exact ⟨rfl, rfl⟩

theorem write_before_cur_keeps_remaining {i : Instr} {x : Nat} (hi : writeOperands i = some (v, off, w, x))
    (hbefore : v.base + v.len ≤ s.cur) (hexec : exec i s = .next t) : remainingBytes t = remainingBytes s := by
  obtain ⟨hcur, hend⟩ := write_keeps_position hi hexec
  rw [remainingBytes, remainingBytes, hcur, hend]
  refine slice_congr _ _ _ _ _ fun k _ => ?_
  have hbehind : v.base + v.len ≤ s.cur + k := by omega
  exact BlockState.effect_keeps_byte_outside_view (exec_effect hexec) hi (.inr hbehind)

end

/-- Settles O36: the shared read at each width; the sign rule of a width is `sext` with its top bit written out. -/
theorem typedReadsAnswerLittleEndian : Obligations.TypedReadsAnswerLittleEndian := by
  intro s v off hu value
  have hread (w : Nat) (hl : off + w ≤ v.len) (shape : Nat → Response) :
      typedRead w shape v off s = .next { s with resp := shape (value w) } := typedRead_eq_sum hu hl shape
  have hsign8 (n : Nat) : signedShape 1 n = .signed (if n ≤ 0x7F then (n : Int) else (n : Int) - 256) := by
    simp [signedShape, signValue, Nat.lt_succ_iff]
  have hsign16 (n : Nat) : signedShape 2 n = .signed (if n ≤ 0x7FFF then (n : Int) else (n : Int) - 2 ^ 16) := by
    simp [signedShape, signValue, Nat.lt_succ_iff]
  exact ⟨fun hl => ⟨hread 1 hl _, hsign8 _ ▸ hread 1 hl _⟩, fun hl => ⟨hread 2 hl _, hsign16 _ ▸ hread 2 hl _⟩,
    fun hl => ⟨hread 4 hl _, hread 4 hl (signedShape 4)⟩, fun hl => ⟨hread 8 hl _, hread 8 hl (signedShape 8)⟩⟩

/-- Settles O37: by the bounds check of the shared access, which a write reaches through a mutable view. -/
theorem accessOutsideTheViewFaults : Obligations.AccessOutsideTheViewFaults := by
  intro i s v off w hf hv hl
  refine ⟨fun hr => ?read, fun x hx hm => ?write⟩
  case read =>
    obtain ⟨shape, -, hexec⟩ := exec_of_readWidth hr
    rw [hexec, typedRead_outside hf hv hl]
  case write => rw [exec_of_writeOperands hx, typedWrite_outside hf hv hl hm]

/-- Settles O39: the buffer after the shared write, byte by byte. -/
theorem typedWritesStoreTheirBytes : Obligations.TypedWritesStoreTheirBytes := by
  intro i s v off w x hu hm hl hi
  refine ⟨s.mem.write (v.base + off) w x, ?_, write_size .., byteAt_write _ _ _ _⟩
  rw [exec_of_writeOperands hi, typedWrite_inside hu hm hl]

/-- Settles O40: the two reads after a write of the same width. -/
theorem writeThenReadAnswersTheValue : Obligations.WriteThenReadAnswersTheValue := by
  intro s t v off hu hm
  have hreads (w : Nat) (hw : 0 < w) (hl : off + w ≤ v.len) (x : BitVec (8 * w)) (i : Instr)
      (hi : writeOperands i = some (v, off, w, x.toNat)) (hexec : exec i s = .next t) :=
    reads_after_write hu hm hl hw hi hexec
  exact ⟨fun x hl => ⟨fun h => (hreads 1 (by decide) hl x _ rfl h).2, hreads 1 (by decide) hl x _ rfl⟩,
    fun x hl => ⟨fun h => (hreads 2 (by decide) hl x _ rfl h).2, hreads 2 (by decide) hl x _ rfl⟩,
    fun x hl => ⟨fun h => (hreads 4 (by decide) hl x _ rfl h).2, hreads 4 (by decide) hl x _ rfl⟩,
    fun x hl => ⟨fun h => (hreads 8 (by decide) hl x _ rfl h).2, hreads 8 (by decide) hl x _ rfl⟩⟩

/-- Settles O44: the yielded view lies before CUR, and a write changes no byte outside its view. -/
theorem writeThroughYieldedViewKeepsTheRest : Obligations.WriteThroughYieldedViewKeepsTheRest := by
  intro s t u v va i off w x _ hpull hresp hi hwrite
  have hbefore : v.base + v.len ≤ t.cur := Nat.le_of_eq (iterNext_yields_view_before_cur hpull hresp)
  exact ⟨write_before_cur_keeps_remaining hi hbefore hwrite, (write_keeps_position hi hwrite).1⟩

end Sys2Proof.Proofs.Views
end

section
/-! The statements of 41_view.md about whole views: the length and the bytes, equality, order and hash. Each is a function
of the slices the views stand for, and a slice is determined by its length and its bytes. -/

namespace Sys2Proof.Proofs.Views

open Sys2Proof.Machine Host

/-! The commands on views the host may use. -/

section
variable {s : State} {a b v : View}

theorem unlessLatched_withViewBytes_usable (hv : Usable v s)
    (run : List Byte → Outcome State Machine.Fault Refusal) :
    unlessLatched s (withViewBytes v s run) = run (s.mem.slice v.base v.len) := by
  obtain ⟨hf, hheld, hinside⟩ := hv
  rw [unlessLatched_clear hf, withViewBytes_held hheld hinside]

theorem unlessLatched_withTwoViews_usable (ha : Usable a s) (hb : Usable b s)
    (run : List Byte → List Byte → Outcome State Machine.Fault Refusal) :
    unlessLatched s (withViewBytes a s fun xs => withViewBytes b s (run xs))
      = run (s.mem.slice a.base a.len) (s.mem.slice b.base b.len) := by
  obtain ⟨-, hheld, hinside⟩ := hb
  rw [unlessLatched_withViewBytes_usable ha, withViewBytes_held hheld hinside]

/-- R184: no byte is read, so the view need not lie inside the buffer. -/
theorem exec_viewLen (hf : s.fault = false) (hv : v ∈ s.views) :
    exec (.viewLen v) s = .next { s with resp := .length v.len } :=
  (unlessLatched_clear hf _).trans (withView_held hv _)

theorem exec_viewBytes (hv : Usable v s) :
    exec (.viewBytes v) s = .next { s with resp := .bytes (s.mem.slice v.base v.len) } :=
  unlessLatched_withViewBytes_usable hv _

theorem exec_viewHash (hv : Usable v s) :
    exec (.viewHash v) s = .next { s with resp := .hash (hashFn (s.mem.slice v.base v.len)) } :=
  unlessLatched_withViewBytes_usable hv _

theorem exec_viewEq (ha : Usable a s) (hb : Usable b s) :
    exec (.viewEq a b) s
      = .next { s with resp := .equal (decide (s.mem.slice a.base a.len = s.mem.slice b.base b.len)) } :=
  unlessLatched_withTwoViews_usable ha hb _

theorem exec_viewCmp (ha : Usable a s) (hb : Usable b s) :
    exec (.viewCmp a b) s
      = .next { s with resp := .order (compareBytes (s.mem.slice a.base a.len) (s.mem.slice b.base b.len)) } :=
  unlessLatched_withTwoViews_usable ha hb _

theorem viewEq_true_iff (ha : Usable a s) (hb : Usable b s) :
    exec (.viewEq a b) s = .next { s with resp := .equal true }
      ↔ s.mem.slice a.base a.len = s.mem.slice b.base b.len := by
  rw [exec_viewEq ha hb]
  simp

end

/-! Slices by their bytes. -/

@[simp] theorem slice_getElem (m : Memory) (base len k : Nat) (h : k < (m.slice base len).length) :
    (m.slice base len)[k] = m.byteAt (base + k) := by
  simp [Memory.slice]

theorem slice_eq_iff (m m' : Memory) (a b : View) :
    m.slice a.base a.len = m'.slice b.base b.len
      ↔ a.len = b.len ∧ ∀ k, k < a.len → m.byteAt (a.base + k) = m'.byteAt (b.base + k) := by
  simp only [List.ext_getElem_iff, slice_length, slice_getElem]
  refine and_congr_right fun hlen => forall_congr' fun k => ?_
  simp [hlen]

theorem slice_take (m : Memory) (base : Nat) {len n : Nat} (h : n ≤ len) :
    (m.slice base len).take n = m.slice base n := by
  simp [Memory.slice, ← List.map_take, List.take_range, h]

/-! The order of R206 is the library's order of lists, bytes ordered as unsigned numbers. -/

theorem compareBytes_eq_lt (xs ys : List Byte) : compareBytes xs ys = .lt ↔ xs < ys := by
  fun_induction compareBytes xs ys with
  | case1 => simp
  | case2 => simp
  | case3 => simp
  | case4 x xs y ys hlt => simp [List.cons_lt_cons_iff, BitVec.lt_def, hlt]
  | case5 x xs y ys hlt hgt =>
    have hne : x ≠ y := by rintro rfl; exact hlt hgt
    simp [List.cons_lt_cons_iff, BitVec.lt_def, hlt, hne]
  | case6 x xs y ys hlt hgt ih =>
    have heq : x = y := BitVec.eq_of_toNat_eq (by omega)
    simp [heq, ih]

theorem compareBytes_swap (xs ys : List Byte) : compareBytes ys xs = (compareBytes xs ys).swap := by
  fun_induction compareBytes xs ys with
  | case1 | case2 | case3 => rfl
  | case4 x xs y ys hlt => simp [compareBytes, hlt, Nat.lt_asymm hlt]
  | case5 x xs y ys hlt hgt => simp [compareBytes, hgt]
  | case6 x xs y ys hlt hgt ih => simp [compareBytes, hlt, hgt, ih]

theorem compareBytes_eq_gt (xs ys : List Byte) : compareBytes xs ys = .gt ↔ ys < xs := by
  rw [← compareBytes_eq_lt ys xs, compareBytes_swap xs ys, Ordering.swap_eq_lt]

theorem compareBytes_eq_eq (xs ys : List Byte) : compareBytes xs ys = .eq ↔ xs = ys := by
  fun_induction compareBytes xs ys with
  | case1 => simp
  | case2 => simp
  | case3 => simp
  | case4 x xs y ys hlt =>
    have hne : x ≠ y := by rintro rfl; exact Nat.lt_irrefl _ hlt
    simp [hne]
  | case5 x xs y ys hlt hgt =>
    have hne : x ≠ y := by rintro rfl; exact hlt hgt
    simp [hne]
  | case6 x xs y ys hlt hgt ih =>
    have heq : x = y := BitVec.eq_of_toNat_eq (by omega)
    simp [heq, ih]

/-- R206: at the first index where the bytes of the two views differ, that of `p` is smaller, or `p` ends there. -/
def BytesBefore (m : Memory) (p q : View) : Prop :=
  ∃ n, n ≤ p.len ∧ n ≤ q.len ∧ (∀ k, k < n → m.byteAt (p.base + k) = m.byteAt (q.base + k))
    ∧ ((n = p.len ∧ n < q.len)
        ∨ (n < p.len ∧ n < q.len ∧ (m.byteAt (p.base + n)).toNat < (m.byteAt (q.base + n)).toNat))

theorem slice_lt_iff (m : Memory) (p q : View) :
    m.slice p.base p.len < m.slice q.base q.len ↔ BytesBefore m p q := by
  have hprefix (h : p.len < q.len) : m.slice p.base p.len = (m.slice q.base q.len).take p.len
      ↔ ∀ k, k < p.len → m.byteAt (p.base + k) = m.byteAt (q.base + k) := by
    rw [slice_take _ _ h.le, slice_eq_iff m m p { q with len := p.len }]
    exact and_iff_right rfl
  rw [List.lt_iff_exists]
  simp only [slice_length, slice_getElem, BitVec.lt_def]
  constructor
  · rintro (⟨hpre, hlen⟩ | ⟨n, hp, hq, heq, hlt⟩)
    · exact ⟨p.len, le_rfl, hlen.le, (hprefix hlen).mp hpre, .inl ⟨rfl, hlen⟩⟩
    · exact ⟨n, hp.le, hq.le, heq, .inr ⟨hp, hq, hlt⟩⟩
  · rintro ⟨n, -, -, heq, ⟨rfl, hlen⟩ | ⟨hp, hq, hlt⟩⟩
    · exact .inl ⟨(hprefix hlen).mpr heq, hlen⟩
    · exact .inr ⟨n, hp, hq, heq, hlt⟩

/-- Settles O35: the bytes are the slice of the view. -/
theorem viewLengthAndBytes : Obligations.ViewLengthAndBytes := by
  intro s v hu
  have ⟨hf, hheld, _⟩ := hu
  exact ⟨exec_viewLen hf hheld, _, exec_viewBytes hu, slice_length .., fun k hk => slice_getElem? _ _ _ _ hk⟩

/-- Settles O41: VIEW_EQ decides the equality of the two slices. -/
theorem viewEqComparesTheBytes : Obligations.ViewEqComparesTheBytes := by
  intro s a b ha hb
  refine ⟨_, exec_viewEq ha hb, ?_⟩
  rw [decide_eq_true_iff, slice_eq_iff]

/-- Settles O42: VIEW_CMP is the order of the two slices, and VIEW_EQ their equality. -/
theorem viewCmpIsLexicographic : Obligations.ViewCmpIsLexicographic := by
  intro s a b ha hb smaller
  have hbefore (p q : View) : s.mem.slice p.base p.len < s.mem.slice q.base q.len ↔ smaller p q :=
    slice_lt_iff s.mem p q
  refine ⟨_, exec_viewCmp ha hb, ?lt, ?gt, ?eq⟩
  case lt => rw [compareBytes_eq_lt, hbefore]
  case gt => rw [compareBytes_eq_gt, hbefore]
  case eq => rw [compareBytes_eq_eq, viewEq_true_iff ha hb]

/-- Settles O43: the hash is HASH_FN of the slice; nothing else is assumed of HASH_FN. -/
theorem viewHashDependsOnTheBytes : Obligations.ViewHashDependsOnTheBytes := by
  intro s t a b ha hb
  refine ⟨_, _, exec_viewHash ha, exec_viewHash hb, fun hlen hbytes => ?bytes, fun hst heq => ?equal⟩
  case bytes => rw [(slice_eq_iff s.mem t.mem a b).mpr ⟨hlen, hbytes⟩]
  case equal =>
    subst hst
    rw [(viewEq_true_iff ha hb).mp heq]

end Sys2Proof.Proofs.Views
end

section
/-! The statements of 42_iterator.md: the binding, the skip, and the pull with its three outcomes. A pull and the byte-class
row whose bytes stand at CUR are the same operation. -/

namespace Sys2Proof.Proofs.Iterator

open Sys2Proof.Machine Host

/-! The binding (R223). -/

/-- R223: the operands are values of the interface, so each check passes. -/
theorem exec_iterStart {s : State} {base len : Nat} {va0 : VaWord} (hf : s.fault = false)
    (hb : base + len ≤ s.mem.size) (hv : va0.toNat < 2 ^ s.cfg.arch.vaw) (m : Bool) :
    exec (.iterStart base len va0 m) s = .next { bindIterator base len va0 m s with resp := .done } := by
  calc exec (.iterStart base len va0 m) s
      = withSlice base len s fun _ => withAddress va0 s (answer .done (bindIterator base len va0 m s)) :=
        unlessLatched_clear hf _
    _ = withAddress va0 s (answer .done (bindIterator base len va0 m s)) := withSlice_inside hb _
    _ = _ := by rw [withAddress_fits hv, answer_eq]

/-- Settles O23: the pull over the empty slice is one with no byte remaining. -/
theorem iterStartBindsTheSlice : Obligations.IterStartBindsTheSlice := by
  intro s base len va0 m hf hb hv
  have hstart := exec_iterStart hf hb hv m
  refine ⟨hstart, fun hlen t ht => ?_⟩
  obtain rfl := hlen
  rw [hstart] at ht
  cases ht
  exact BlockState.iterNext_of_no_remaining hf rfl rfl hb

/-! The skip (R229, R230). -/

/-- R229: everything a skip can do with no fault latched, in the order of its tests. -/
theorem exec_iterSkip {s : State} (hf : s.fault = false) (k : Nat) :
    exec (.iterSkip k) s
      = if s.endIdx - s.cur < k then .next (faultedState .skipRange (.skipRange k (s.endIdx - s.cur)) s)
        else if VaFits k s then .next { consume k s with resp := .done }
        else .next (faultedState .vaOverflow .vaOverflow s) := by
  refine (unlessLatched_clear hf _).trans (if_congr Iff.rfl rfl ?_)
  cases hv : vaOverflows k s with
  | false => rw [if_pos (vaOverflows_eq_false.mp hv)]; rfl
  | true =>
    rw [if_neg fun hfits => absurd (vaOverflows_eq_false.mpr hfits) (by simp [hv])]
    rfl

/-- Settles O25: one clause for each branch of the skip. -/
theorem skipMovesThePosition : Obligations.SkipMovesThePosition := by
  intro s k hf hcur _
  rw [exec_iterSkip hf k]
  refine ⟨fun hk hfits => ?moved, fun hk => if_pos (by omega), fun hk hfits => ?overflow⟩
  case moved => rw [if_neg (by omega), if_pos hfits, ofNat_va_add]; rfl
  case overflow => rw [if_neg (by omega), if_neg hfits]

/-! The pull (R225 to R228). -/

section
variable {s : State}

/-- R225: a pull that runs the engine is the pull on the remaining bytes. -/
theorem exec_iterNext_of_pullable (hs : Pullable s) : exec .iterNext s = pullText (remainingBytes s) s := by
  obtain ⟨hf, hexh, hcur, hend⟩ := hs
  calc exec .iterNext s = withRemaining s fun remaining => pullText remaining s := unlessExhausted_runs hf hexh _
    _ = pullText (remainingBytes s) s := withRemaining_inside hcur hend _

theorem exec_iterNext_latched (hf : s.fault = false) (hl : s.cfg.exhLatch = true) (he : s.exh = true) :
    exec .iterNext s = .next { s with resp := .nothing } := by
  refine (unlessLatched_clear hf _).trans (if_pos ?_)
  rw [hl, he]
  rfl

section
variable (hs : Pullable s) {n : Nat} (hn : (measure s.cfg (remainingBytes s)).total = n)
include hs hn

theorem exec_iterNext_yields (hpos : 0 < n) (hfits : VaFits n s) : exec .iterNext s = .next (yieldedState n s) := by
  rw [exec_iterNext_of_pullable hs, pullText_eq, hn, if_neg (by omega), if_pos hfits]

theorem exec_iterNext_exhausts (hzero : n = 0) : exec .iterNext s = .next (exhaustedState s) := by
  rw [exec_iterNext_of_pullable hs, pullText_eq, hn, if_pos hzero]

theorem exec_iterNext_overflows (hpos : 0 < n) (hfits : ¬ VaFits n s) :
    exec .iterNext s = .next (faultedState .vaOverflow .vaOverflow s) := by
  rw [exec_iterNext_of_pullable hs, pullText_eq, hn, if_neg (by omega), if_neg hfits]

end
end

/-- Settles O24: one clause for each outcome of the pull. -/
theorem pullYieldsFailsOrOverflows : Obligations.PullYieldsFailsOrOverflows := fun _ =>
  ⟨fun hs => ⟨exec_iterNext_yields hs rfl, exec_iterNext_exhausts hs rfl, exec_iterNext_overflows hs rfl⟩,
    exec_iterNext_latched⟩

/-! The rows (assumption logs 9 and 11). -/

section
variable {s : State}

/-- Putting bytes in front that stand there already changes nothing, in whatever state. -/
theorem sweep_of_prefix {lead : List Byte} (h : lead <+: remainingBytes s) : sweep lead s = execIterNext s := by
  have htext : pullText (textFrom lead (remainingBytes s)) s = pullText (remainingBytes s) s := by
    rw [textFrom_of_prefix h]
  exact congrArg (unlessExhausted s) (if_congr Iff.rfl htext rfl)

theorem exec_row_eq_iterNext {i : Instr} (hc : isCommand i = false) (hlead : encode i <+: remainingBytes s) :
    exec i s = exec .iterNext s := (exec_row i s hc).trans (sweep_of_prefix hlead)

theorem resolve_iterNext_of_runs (hruns : pullRuns s = true) :
    resolve .iterNext s = (decodeText s.cfg.arch (remainingBytes s)).toOption.getD .iterNext := by
  simp only [resolve, hruns, if_true, remainingBytes]
  cases decodeText s.cfg.arch (s.mem.slice s.cur (s.endIdx - s.cur)) <;> rfl

/-- A pull resolves to itself, or to a row whose bytes stand at CUR. -/
theorem resolve_iterNext (s : State) :
    resolve .iterNext s = .iterNext
      ∨ isCommand (resolve .iterNext s) = false ∧ encode (resolve .iterNext s) <+: remainingBytes s := by
  cases hruns : pullRuns s with
  | false => exact .inl (by simp [resolve, hruns])
  | true =>
    rw [resolve_iterNext_of_runs hruns]
    by_cases hempty : remainingBytes s = []
    · exact .inl (by rw [hempty]; rfl)
    · obtain ⟨row, hdecoded, hrow, -, hbytes⟩ :=
        Encoding.everyTextBeginsWithItsRow s.cfg.arch (remainingBytes s) hempty
      rw [hdecoded]
      exact .inr ⟨hrow, hbytes⟩

theorem exec_resolve_iterNext (s : State) : exec (resolve .iterNext s) s = exec .iterNext s := by
  rcases resolve_iterNext s with hself | ⟨hc, hlead⟩
  · rw [hself]
  · exact exec_row_eq_iterNext hc hlead

end

/-- Settles O29: the row whose bytes stand at CUR is the pull. -/
theorem everyRowIsMeasuredAndPassed : Obligations.EveryRowIsMeasuredAndPassed := by
  intro i s hc hs hlead
  rw [exec_row_eq_iterNext hc hlead]
  exact (pullYieldsFailsOrOverflows s).1 hs

/-- Settles O34: only a pull is resolved to another instruction, and that is a row whose bytes stand at CUR. -/
theorem pullHasTheEffectOfItsRow : Obligations.PullHasTheEffectOfItsRow := by
  intro i s
  cases i with
  | iterNext => exact exec_resolve_iterNext s
  | _ => rfl

end Sys2Proof.Proofs.Iterator
end

section
/-! The statements of 42_iterator.md about repeated pulls: what a pull adds to the sequence of items, how the items lie in
the slice, and the source's fixture. -/

namespace Sys2Proof.Proofs.Iterator

open Sys2Proof.Machine Host

/-! One pull of a sequence. -/

section
variable {s : State}

/-- R28, R227: the bytes that remain after a yield are those behind the view. -/
theorem remainingBytes_yieldedState (n : Nat) (s : State) :
    remainingBytes (yieldedState n s) = (remainingBytes s).drop n := by
  simp only [remainingBytes, yieldedState_mem, yieldedState_cur, yieldedState_endIdx, slice_drop, Nat.sub_add_eq]

/-- R228, R231: where the address fits, it moves by the length of the item. -/
theorem yieldedState_va_toNat {n : Nat} (hfits : VaFits n s) : (yieldedState n s).va.toNat = s.va.toNat + n := by
  rw [← yieldView_eq, yieldView_va, consume_va_toNat hfits]

/-- R175: the measured bytes are among the remaining ones. -/
theorem cur_add_measure_le (hs : Pullable s) : s.cur + (measure s.cfg (remainingBytes s)).total ≤ s.endIdx := by
  obtain ⟨-, -, hcur, -⟩ := hs
  have hle := BlockState.measure_total_le s.cfg (remainingBytes s)
  rw [remainingBytes, slice_length] at hle
  rw [remainingBytes]
  omega

theorem pullable_yieldedState (hs : Pullable s) {n : Nat} (hn : (measure s.cfg (remainingBytes s)).total = n) :
    Pullable (yieldedState n s) := by
  have hcur := cur_add_measure_le hs
  obtain ⟨hf, hexh, -, hend⟩ := hs
  exact ⟨hf, hexh, hn ▸ hcur, hend⟩

variable (hs : Pullable s) {n : Nat}
include hs

theorem pulled_succ_yields (hn : (measure s.cfg (remainingBytes s)).total = n) (hpos : 0 < n) (hfits : VaFits n s)
    (k : Nat) : pulled (k + 1) s = (View.mk s.cur n s.mutBit, s.va) :: pulled k (yieldedState n s) := by
  have hexec : execIterNext s = .next (yieldedState n s) := exec_iterNext_yields hs hn hpos hfits
  simp only [pulled, hexec, yieldedState_resp]

theorem pulled_succ_exhausts (hn : (measure s.cfg (remainingBytes s)).total = 0) (k : Nat) :
    pulled (k + 1) s = [] := by
  have hexec : execIterNext s = .next (exhaustedState s) := exec_iterNext_exhausts hs hn rfl
  simp only [pulled, hexec, exhaustedState_resp]

theorem pulled_succ_overflows (hn : (measure s.cfg (remainingBytes s)).total = n) (hpos : 0 < n) (hfits : ¬ VaFits n s)
    (k : Nat) : pulled (k + 1) s = [] := by
  have hexec : execIterNext s = .next (faultedState .vaOverflow .vaOverflow s) :=
    exec_iterNext_overflows hs hn hpos hfits
  simp only [pulled, hexec, faultedState_resp]

end

/-! A sequence of pulls. -/

/-- How many bytes the items cover. -/
def bytesOf (items : List (View × VaWord)) : Nat := (items.map fun item => item.1.len).sum

theorem bytesOf_cons (item : View × VaWord) (items : List (View × VaWord)) :
    bytesOf (item :: items) = item.1.len + bytesOf items := List.sum_cons

/-- How the pulls from `s` go on and where they end: with `n` pulls the items `items` are yielded and the next pull would be
made from `t`. The pulls have run out, or the pull from `t` yields nothing: its bytes do not decode, or the address does not
fit. -/
inductive PullRun : Nat → State → List (View × VaWord) → State → Prop
  | ranOut (s : State) : PullRun 0 s [] s
  | stopped {s : State} (n : Nat)
      (h : (measure s.cfg (remainingBytes s)).total = 0 ∨ ¬ VaFits (measure s.cfg (remainingBytes s)).total s) :
      PullRun (n + 1) s [] s
  | yielded {n len : Nat} {s t : State} {items : List (View × VaWord)}
      (hlen : (measure s.cfg (remainingBytes s)).total = len) (hpos : 0 < len) (hfits : VaFits len s)
      (hrest : PullRun n (yieldedState len s) items t) :
      PullRun (n + 1) s ((View.mk s.cur len s.mutBit, s.va) :: items) t

/-- A yield leaves the block ready to pull, so the pulls go on from there. -/
theorem exists_pullRun {s : State} (hs : Pullable s) (n : Nat) : ∃ t, PullRun n s (pulled n s) t ∧ Pullable t := by
  induction n generalizing s with
  | zero => exact ⟨s, .ranOut s, hs⟩
  | succ n ih =>
    rcases Nat.eq_zero_or_pos (measure s.cfg (remainingBytes s)).total with hzero | hpos
    · rw [pulled_succ_exhausts hs hzero]
      exact ⟨s, .stopped n (.inl hzero), hs⟩
    by_cases hfits : VaFits (measure s.cfg (remainingBytes s)).total s
    · rw [pulled_succ_yields hs rfl hpos hfits]
      obtain ⟨t, hrun, ht⟩ := ih (pullable_yieldedState hs rfl)
      exact ⟨t, .yielded rfl hpos hfits hrun, ht⟩
    · rw [pulled_succ_overflows hs rfl hpos hfits]
      exact ⟨s, .stopped n (.inr hfits), hs⟩

section
variable {n : Nat} {s t : State} {items : List (View × VaWord)}

/-- R228: `n` bytes have been passed, and nothing else that the engine looks at has changed. -/
structure PullsPast (n : Nat) (s t : State) : Prop extends BlockState.AdvancesBy n s t where
  cfg : t.cfg = s.cfg
  mem : t.mem = s.mem

theorem pullRun_pullsPast (h : PullRun n s items t) : PullsPast (bytesOf items) s t := by
  induction h with
  | ranOut | stopped => exact ⟨⟨rfl, rfl, rfl, id⟩, rfl, rfl⟩
  | @yielded n len s t items _ _ hfits _ ih =>
    have hcur := ih.cur
    have hva := ih.va
    rw [yieldedState_cur] at hcur
    rw [yieldedState_va_toNat hfits] at hva
    simp only [bytesOf_cons]
    exact ⟨⟨ih.endIdx, by omega, by omega, ih.exh⟩, ih.cfg, ih.mem⟩

/-- R227: the item `k` stands behind the items before it. -/
theorem pullRun_getElem (h : PullRun n s items t) (k : Nat) (hk : k < items.length) :
    (items[k].1.base = s.cur + bytesOf (items.take k) ∧ items[k].2.toNat = s.va.toNat + bytesOf (items.take k))
      ∧ 1 ≤ items[k].1.len ∧ items[k].1.mutBit = s.mutBit := by
  induction h generalizing k with
  | ranOut | stopped => cases hk
  | @yielded n len s t items _ hpos hfits _ ih =>
    cases k with
    | zero => exact ⟨⟨rfl, rfl⟩, hpos, rfl⟩
    | succ k =>
      obtain ⟨⟨hbase, hva⟩, hlen, hmut⟩ := ih k (Nat.lt_of_succ_lt_succ hk)
      rw [yieldedState_cur, Nat.add_assoc] at hbase
      rw [yieldedState_va_toNat hfits, Nat.add_assoc] at hva
      rw [List.getElem_cons_succ, List.take_succ_cons, bytesOf_cons]
      exact ⟨⟨hbase, hva⟩, hlen, hmut⟩

theorem pullRun_cur_le_base (h : PullRun n s items t) : ∀ item ∈ items, s.cur ≤ item.1.base := by
  intro item hitem
  obtain ⟨k, hk, rfl⟩ := List.getElem_of_mem hitem
  obtain ⟨⟨hbase, -⟩, -⟩ := pullRun_getElem h k hk
  omega

/-- R67: the items after a yield begin behind the view yielded. -/
theorem pullRun_disjoint (h : PullRun n s items t) : items.Pairwise fun a b => viewsDisjoint a.1 b.1 := by
  induction h with
  | ranOut | stopped => exact .nil
  | yielded _ _ _ hrest ih => exact .cons (fun item hitem => .inl (pullRun_cur_le_base hrest item hitem)) ih

/-- R226, R231: fewer items than pulls means that the last pull yielded nothing. -/
theorem pullRun_stops (h : PullRun n s items t) (hn : items.length < n) :
    (measure t.cfg (remainingBytes t)).total = 0 ∨ ¬ VaFits (measure t.cfg (remainingBytes t)).total t := by
  induction h with
  | ranOut => cases hn
  | stopped _ hstop => exact hstop
  | yielded _ _ _ _ ih => exact ih (Nat.lt_of_succ_lt_succ hn)

end

/-- Settles O27: the items of a run of pulls lie one behind the other, and the run ends in a state ready to pull whose
remaining bytes are those behind the items. If the address space holds all of the slice, only the bytes can stop it. -/
theorem pulledItemsTileTheSlice : Obligations.PulledItemsTileTheSlice := by
  intro s n _ hs items before
  obtain ⟨t, hrun, ht⟩ : ∃ t, PullRun n s items t ∧ Pullable t := exists_pullRun hs n
  have hmoved := pullRun_pullsPast hrun
  have hall : before items.length = bytesOf items := by simp only [before, List.take_length, bytesOf]
  have hend := cur_add_measure_le ht
  have hrem : remainingBytes t
      = s.mem.slice (s.cur + before items.length) (s.endIdx - (s.cur + before items.length)) := by
    rw [remainingBytes, hmoved.mem, hmoved.cur, hmoved.endIdx, hall]
  have hcur := hmoved.cur
  have hva := hmoved.va
  rw [hmoved.endIdx] at hend
  refine ⟨pullRun_getElem hrun, pullRun_disjoint hrun, ?_, fun hshort hspace => ?_⟩
  · rw [hall]; omega
  · have hfits : VaFits (measure t.cfg (remainingBytes t)).total t := by
      simp only [VaFits, hmoved.cfg] at hend ⊢
      omega
    have hzero := (pullRun_stops hrun hshort).resolve_right (not_not_intro hfits)
    rwa [hmoved.cfg, hrem] at hzero

/-! The source's fixture (R233). -/

/-- R105: two bytes, then four, and the last two fail, whatever the placeholder. -/
theorem measure_fixture {cfg : Config} (harch : cfg.arch = .x64) (ht : tablesScenario cfg = true) (p : Byte) :
    (measure cfg [0x40#8, 0x55#8, 0x48#8, 0x83#8, 0xEC#8, p, 0x00#8, 0x80#8]).total = 2
      ∧ (measure cfg [0x48#8, 0x83#8, 0xEC#8, p, 0x00#8, 0x80#8]).total = 4
      ∧ (measure cfg [0x00#8, 0x80#8]).total = 0 := by
  simp only [tablesScenario, harch, Bool.and_eq_true, Bool.or_eq_true, beq_iff_eq, reduceCtorEq, false_or] at ht
  obtain ⟨hentries, hfail⟩ := ht
  exact ⟨(Encoding.scenarios_x64 cfg p _ harch hentries).1, (Encoding.scenarios_x64 cfg p _ harch hentries).2,
    congrArg Breakdown.total hfail⟩

/-- The pulls from any state whose remaining bytes are the fixture and whose address has room for the two items. -/
theorem pulled_fixture {s : State} (hs : Pullable s) (harch : s.cfg.arch = .x64) (ht : tablesScenario s.cfg = true)
    (hva : s.va.toNat + 6 < 2 ^ 64) {p : Byte}
    (hrem : remainingBytes s = [0x40#8, 0x55#8, 0x48#8, 0x83#8, 0xEC#8, p, 0x00#8, 0x80#8]) (n : Nat) :
    pulled (n + 3) s
      = [(View.mk s.cur 2 s.mutBit, s.va), (View.mk (s.cur + 2) 4 s.mutBit, BitVec.ofNat 64 (s.va.toNat + 2))] := by
  obtain ⟨hfirst, hsecond, hthird⟩ := measure_fixture harch ht p
  have hrem1 : remainingBytes (yieldedState 2 s) = [0x48#8, 0x83#8, 0xEC#8, p, 0x00#8, 0x80#8] := by
    rw [remainingBytes_yieldedState, hrem]; rfl
  have hrem2 : remainingBytes (yieldedState 4 (yieldedState 2 s)) = [0x00#8, 0x80#8] := by
    rw [remainingBytes_yieldedState, hrem1]; rfl
  rw [← hrem] at hfirst
  rw [← hrem1] at hsecond
  rw [← hrem2] at hthird
  have hs1 := pullable_yieldedState hs hfirst
  have hs2 := pullable_yieldedState hs1 hsecond
  have hmax : 2 ^ s.cfg.arch.vaw = 2 ^ 64 := by rw [harch]; rfl
  have hfits1 : VaFits 2 s := by simp only [VaFits, hmax]; omega
  have hfits2 : VaFits 4 (yieldedState 2 s) := by
    simp only [VaFits, yieldedState_va_toNat hfits1, yieldedState_cfg, hmax]; omega
  rw [pulled_succ_yields hs hfirst (by decide) hfits1, pulled_succ_yields hs1 hsecond (by decide) hfits2,
    pulled_succ_exhausts hs2 hthird]
  rfl

/-- Settles O28: the binding makes the fixture the remaining bytes. -/
theorem fixtureYieldsTwoItems : Obligations.FixtureYieldsTwoItems := by
  intro s t p n hf harch ht hsize hbytes hstart
  have hva : (0x1000#64).toNat < 2 ^ s.cfg.arch.vaw := by rw [harch]; decide
  rw [exec_iterStart hf hsize hva] at hstart
  cases hstart
  have hroom : (0x1000#64).toNat + 6 < 2 ^ 64 := by decide
  exact pulled_fixture (s := { bindIterator 0 8 0x1000#64 false s with resp := .done })
    ⟨hf, fun _ => rfl, Nat.zero_le 8, hsize⟩ harch ht hroom hbytes n

end Sys2Proof.Proofs.Iterator
end

section
/-! The statements of 60_exceptions.md: refusal while a fault is latched, the order of the tests of a typed write, what a
fault changes, the table of outcomes, and that an instruction the host can issue completes. -/

namespace Sys2Proof.Proofs.Exceptions

open Sys2Proof.Machine Host

/-! Refusal (R264, R260). -/

/-- Every instruction but RESET tests the latch before anything else. -/
theorem exec_eq_unlessLatched {i : Instr} (hi : i ≠ .reset) (s : State) : ∃ run, exec i s = unlessLatched s run := by
  cases hc : isCommand i with
  | false => exact ⟨_, exec_row i s hc⟩
  | true =>
    cases i with
    | reset => exact absurd rfl hi
    | decodeBreakdown | decodeLen | iterStart | iterNext | iterSkip | viewLen | viewBytes | viewEq | viewCmp | viewHash
    | viewReadU8 | viewReadU16 | viewReadU32 | viewReadU64 | viewReadI8 | viewReadI16 | viewReadI32 | viewReadI64
    | viewWriteU8 | viewWriteU16 | viewWriteU32 | viewWriteU64 | viewWriteI8 | viewWriteI16 | viewWriteI32
    | viewWriteI64 => exact ⟨_, rfl⟩
    | _ => cases hc

/-- Settles O46: the latch is tested first, and it is set. -/
theorem latchedBlockRefusesEverything : Obligations.LatchedBlockRefusesEverything := by
  intro i s hi hf
  obtain ⟨run, hexec⟩ := exec_eq_unlessLatched hi s
  rw [hexec, unlessLatched_latched hf]

/-! Completion (R258). -/

/-- The instruction ends with a next state: neither a refusal by name nor a fault of the model. -/
def Completes (o : Outcome State Machine.Fault Refusal) : Prop := ∃ t, o = .next t

section
variable {i : Instr} {v : View} {off w x : Nat}

theorem mem_viewOperands_of_readWidth (h : readWidth i = some (v, off, w)) : v ∈ viewOperands i := by
  cases i <;> cases h
  all_goals exact List.mem_singleton_self _

theorem mem_viewOperands_of_writeOperands (h : writeOperands i = some (v, off, w, x)) : v ∈ viewOperands i := by
  cases i <;> cases h
  all_goals exact List.mem_singleton_self _

theorem mem_views_of_issuable {s : State} (hi : issuable i s = true) (hv : v ∈ viewOperands i) : v ∈ s.views := by
  unfold issuable at hi
  split at hi
  case h_4 => exact of_decide_eq_true (List.all_eq_true.mp hi v hv)
  all_goals cases hv

end

section
variable {s : State} (hf : s.fault = false)
include hf

/-- The pull shared by ITER_NEXT and the rows: the exhausted latch answers, or the engine runs on the remaining bytes,
which lie inside the buffer. -/
theorem pull_completes (hs : Scope.BoundsInside s) (text : List Byte → List Byte) :
    Completes (unlessExhausted s (withRemaining s fun remaining => pullText (text remaining) s)) := by
  obtain ⟨hcur, hend⟩ := hs.binding
  rw [unlessExhausted, unlessLatched_clear hf, withRemaining_inside hcur hend, pullText_eq]
  split_ifs <;> exact ⟨_, rfl⟩

theorem iterSkip_completes (k : Nat) : Completes (exec (.iterSkip k) s) := by
  rw [Iterator.exec_iterSkip hf]
  split_ifs <;> exact ⟨_, rfl⟩

/-- R254: the `mut` bit is tested before the bounds, so the offset plays no part. -/
theorem typedWrite_immutable {v : View} (hv : v ∈ s.views) (hm : v.mutBit = false) (off w x : Nat) :
    typedWrite w v off x s = .next (faultedState .viewReadOnly .viewReadOnly s) := by
  rw [typedWrite, unlessLatched_clear hf, withView_held hv, if_neg (by simp [hm]), takeFault_eq, faultCause]

end

section
variable {s : State} {v : View} (hu : Usable v s)
include hu

/-- A read inside the view answers its value, and one outside faults. -/
theorem typedRead_completes (w off : Nat) (shape : Nat → Response) : Completes (typedRead w shape v off s) := by
  have ⟨hf, hv, _⟩ := hu
  rcases Nat.lt_or_ge v.len (off + w) with hl | hl
  · exact ⟨_, Views.typedRead_outside hf hv hl shape⟩
  · exact ⟨_, typedRead_inside hu hl shape⟩

/-- A write through an immutable view faults, one outside a mutable view faults, and one inside stores its bytes. -/
theorem typedWrite_completes (w off x : Nat) : Completes (typedWrite w v off x s) := by
  have ⟨hf, hv, _⟩ := hu
  cases hm : v.mutBit with
  | false => exact ⟨_, typedWrite_immutable hf hv hm off w x⟩
  | true =>
    rcases Nat.lt_or_ge v.len (off + w) with hl | hl
    · exact ⟨_, Views.typedWrite_outside hf hv hl hm x⟩
    · exact ⟨_, typedWrite_inside hu hm hl x⟩

end

/-- By the class of the instruction, with no fault latched: a byte-class row is a pull, a typed access is the shared one
through a view the host may use, and each other command passes the checks of its operands. -/
theorem exec_completes {i : Instr} {s : State} (hinv : StateInv s) (hf : s.fault = false)
    (hi : issuable i s = true) : Completes (exec i s) := by
  have hs := Scope.boundsInside_of_stateInv hinv
  have husable {v : View} (hv : v ∈ viewOperands i) : Usable v s :=
    have hheld := mem_views_of_issuable hi hv
    ⟨hf, hheld, hs.view v hheld⟩
  cases hc : isCommand i with
  | false => rw [exec_row i s hc]; exact pull_completes hf hs _
  | true =>
    cases hw : writeOperands i with
    | some p =>
      rw [exec_of_writeOperands hw]
      exact typedWrite_completes (husable (mem_viewOperands_of_writeOperands hw)) _ _ _
    | none =>
      cases hr : readWidth i with
      | some p =>
        obtain ⟨shape, -, hexec⟩ := exec_of_readWidth hr
        rw [hexec]
        exact typedRead_completes (husable (mem_viewOperands_of_readWidth hr)) _ _ shape
      | none =>
        cases i with
        | reset => exact ⟨_, rfl⟩
        | decodeBreakdown base len =>
          exact ⟨_, (Decode.decodeCommandsAnswerTheEngine s base len hf (of_decide_eq_true hi)).1⟩
        | decodeLen base len =>
          exact ⟨_, (Decode.decodeCommandsAnswerTheEngine s base len hf (of_decide_eq_true hi)).2⟩
        | iterStart base len va0 m =>
          obtain ⟨hb, hva⟩ := Bool.and_eq_true_iff.mp hi
          exact ⟨_, Iterator.exec_iterStart hf (of_decide_eq_true hb) (of_decide_eq_true hva) m⟩
        | iterNext => exact pull_completes hf hs id
        | iterSkip k => exact iterSkip_completes hf k
        | viewLen v => exact ⟨_, Views.exec_viewLen hf (mem_views_of_issuable hi (List.mem_singleton_self v))⟩
        | viewBytes v => exact ⟨_, Views.exec_viewBytes (husable (List.mem_singleton_self v))⟩
        | viewHash v => exact ⟨_, Views.exec_viewHash (husable (List.mem_singleton_self v))⟩
        | viewEq a b =>
          exact ⟨_, Views.exec_viewEq (husable List.mem_cons_self) (husable (List.mem_pair.mpr (.inr rfl)))⟩
        | viewCmp a b =>
          exact ⟨_, Views.exec_viewCmp (husable List.mem_cons_self) (husable (List.mem_pair.mpr (.inr rfl)))⟩
        | viewReadU8 | viewReadU16 | viewReadU32 | viewReadU64 | viewReadI8 | viewReadI16 | viewReadI32
        | viewReadI64 => cases hr
        | viewWriteU8 | viewWriteU16 | viewWriteU32 | viewWriteU64 | viewWriteI8 | viewWriteI16 | viewWriteI32
        | viewWriteI64 => cases hw
        | _ => cases hc

/-- Settles O54: a latched block refuses (R264), which is an answer, and a block with no fault latched runs the
instruction. -/
theorem issuableInstructionsComplete : Obligations.IssuableInstructionsComplete := by
  intro i s hinv hi
  cases hf : s.fault with
  | false => exact exec_completes hinv hf hi
  | true =>
    by_cases hreset : i = .reset
    · exact ⟨_, by rw [hreset]; rfl⟩
    · exact ⟨_, latchedBlockRefusesEverything i s hreset hf⟩

/-! Faults (R254, R262) and the table of outcomes (R258). -/

/-- Settles O38: each of the eight writes is the shared one with its operands. -/
theorem writeThroughImmutableViewFaults : Obligations.WriteThroughImmutableViewFaults := by
  intro i s v off w x hf hv hm hi
  rw [exec_of_writeOperands hi, typedWrite_immutable hf hv hm]

/-- Settles O47: of the effects of an instruction only the fault answers a fault. -/
theorem faultChangesOnlyTheLatch : Obligations.FaultChangesOnlyTheLatch := by
  intro i s t f hexec hresp
  cases exec_effect hexec with
  | faulted f' =>
    obtain rfl : f' = f := Response.faulted.inj hresp
    rfl
  | answered r _ _ hn => exact absurd hresp (hn f)
  | reset | refused | bound | skipped | exhausted | yielded | written => cases hresp

/-- Settles O48: each effect answers what the table gives the instructions that have it. -/
theorem everyAnswerIsInTheOutcomeTable : Obligations.EveryAnswerIsInTheOutcomeTable := by
  intro i s t hf hexec
  cases exec_effect hexec with
  | reset hi | bound _ _ _ _ _ hi | skipped _ _ hi => rw [hi]; rfl
  | refused _ hlatched => cases hf.symm.trans hlatched
  | answered r _ hr => exact hr
  | faulted f _ hr => exact hr
  | exhausted _ hr => exact hr
  | yielded _ _ hi => exact mayAnswer_pull hi _
  | written _ _ _ _ _ hi =>
    obtain ⟨-, hdone, -⟩ := mayAnswer_write hi
    exact hdone

end Sys2Proof.Proofs.Exceptions
end

section
/-! The statements of 70_reset_and_hazards.md: what a reset clears, what a host write between two commands changes, and
that a patch of bytes the engine does not read keeps the decoded length. -/

namespace Sys2Proof.Proofs.Hazards

open Sys2Proof.Machine Host

/-! Patching (R289). -/

section
variable {i : Instr} {s t : State} {v : View} {off w x : Nat}

/-- R195: a typed write stores its bytes from its offset on. -/
theorem effect_keeps_byte_before_offset (he : Effect i s t) (hi : writeOperands i = some (v, off, w, x)) {a : Nat}
    (ha : a < v.base + off) : t.mem.byteAt a = s.mem.byteAt a := by
  rcases BlockState.effect_mem he with hm | ⟨v', off', w', x', hi', -, -, hm⟩
  · rw [hm]
  · cases hi.symm.trans hi'
    rw [hm, byteAt_write, if_neg (by omega)]

theorem effect_keeps_slice_before_offset (he : Effect i s t) (hi : writeOperands i = some (v, off, w, x)) {n : Nat}
    (hn : n ≤ off) : t.mem.slice v.base n = s.mem.slice v.base n :=
  slice_congr _ _ _ _ _ fun _ _ => effect_keeps_byte_before_offset he hi (by omega)

end

/-- Settles O45: the write lies behind every byte that the decode reads (R58), and the view is as long as before. -/
theorem patchOfUnreadBytesKeepsTheLength : Obligations.PatchOfUnreadBytesKeepsTheLength := by
  intro s t v i off w x htables _ hpos hunread hi hexec
  have he : Effect i s t := exec_effect hexec
  obtain ⟨hread, hlocal⟩ :=
    Memory.decodeReadsOnlyTheBytesItConsumes s.cfg _ (t.mem.slice v.base v.len) htables hpos
  have hinside : bytesRead s.cfg (s.mem.slice v.base v.len) ≤ v.len :=
    calc bytesRead s.cfg (s.mem.slice v.base v.len)
        ≤ (measure s.cfg (s.mem.slice v.base v.len)).total := hread
      _ ≤ (s.mem.slice v.base v.len).length := BlockState.measure_total_le _ _
      _ = v.len := slice_length ..
  rw [BlockState.effect_keeps_cfg he]
  refine hlocal (by rw [slice_length, slice_length]) ?_
  rw [Views.slice_take _ _ hinside, Views.slice_take _ _ hinside, effect_keeps_slice_before_offset he hi hunread]

/-! Reset (R280). -/

/-- R280, R265: the way out of a fault clears every register and nothing else. -/
theorem resetRegisters_eq (s : State) :
    resetRegisters s
      = { s with cur := 0, endIdx := 0, va := 0, exh := false, mutBit := false, fault := false, fcause := .none } := rfl

/-- Settles O1: RESET does not look at the latch, so it answers done in every state (R264). -/
theorem resetClearsEveryRegister : Obligations.ResetClearsEveryRegister := fun s =>
  calc exec .reset s
      = answer .done (resetRegisters s) := rfl
    _ = _ := by rw [resetRegisters_eq, answer_eq]

/-! Host writes (R291) and the idle block (R271). -/

section
variable {s : State} {a : Nat} {b : Byte} {rest : List HostAct}

theorem step_idle (h : s.host = []) : step s = .next s := by rw [step, h]

theorem step_write (h : s.host = .write a b :: rest) : step s = hostWrite a b { s with host := rest } := by rw [step, h]

theorem hostWrite_inside (h : a < s.mem.size) : hostWrite a b s = .next { s with mem := s.mem.setByte a b } :=
  if_pos ((holds_iff ..).mpr h)

/-- Assumption log 20. -/
theorem hostWrite_outside (h : s.mem.size ≤ a) : hostWrite a b s = .refused (.hostWriteOutside a) :=
  if_neg fun hh => Nat.not_lt.mpr h ((holds_iff ..).mp hh)

end

/-- Settles O56: the step of each host action, and the buffer after setting a byte. -/
theorem hostWritesBetweenCommands : Obligations.HostWritesBetweenCommands := by
  refine ⟨fun s a b rest hhost => ⟨fun hin => ?inside, fun hout => ?outside⟩, fun s => step_idle⟩
  case inside =>
    exact ⟨s.mem.setByte a b, (step_write hhost).trans (hostWrite_inside hin), setByte_size .., byteAt_setByte s.mem a b⟩
  case outside => exact (step_write hhost).trans (hostWrite_outside hout)

end Sys2Proof.Proofs.Hazards
end
